-- ==== Sys2Proof/Syntax.lean ====
section
/-!
DEFINITION. The block's instructions: the three commands of spec/opcode_table.json.

Rule R100: a command word has no register, immediate or operand field, so no constructor has an
argument.  A command's operands are the input registers as they stand (R101).
-/

namespace Sys2Proof

/-- The commands a host writes to CMD (R101). -/
inductive Instr where
  /-- SETUP, 0x00000001: the expensive key schedule into P and S (R167). -/
  | setup
  /-- ENCRYPT, 0x00000002: 64-fold encryption of CTEXT under P and S (R204). -/
  | encrypt
  /-- HASH, 0x00000003: SETUP, then the 64-fold encryption of the magic plaintext (R205). -/
  | hash
  deriving DecidableEq, Repr

end Sys2Proof
end

