-- ==== Sys2Proof/Word.lean ====
section
/-!
DEFINITION. The word types of the block and their plainest arithmetic.

Rules R6 and R7 of spec/00_scope.md: every value is unsigned, bit 0 is the least significant bit,
`a + b` wraps modulo 2^32, `a ^ b` is the bitwise exclusive-or.  A bit vector's own operations are
exactly these, so no operation is redefined here.
-/

namespace Sys2Proof

/-- `W32`, a 32-bit data word (R5, R6). -/
abbrev Word := BitVec 32

/-- `B8`, a byte (R6). -/
abbrev Byte := BitVec 8

/-- The two halves of a 64-bit Blowfish block, left half first (R5, R132). -/
abbrev Block := Word × Word

end Sys2Proof
end

