-- ==== Sys2Proof/Decode.lean ====
section
/-!
DEFINITION. Decoding and encoding of the command word (spec/30_encoding.md).

The word decoded is the data of a 32-bit bus write, which the block reads at once (R100).  There is
no fetch from memory, so there is no byte order to decide here (R67).
-/

namespace Sys2Proof

/-- Why a command word is illegal (R102, R104).  Both reasons raise the same error, ILLEGAL_CMD. -/
inductive IllegalWord where
  /-- A bit of RSVD, CMD[31:4], is set (R102). -/
  | reservedBits
  /-- RSVD is 0 and OP is 0x0 or 0x4 to 0xF (R104). -/
  | unusedOp
  deriving DecidableEq, Repr

/-- OP, bits [3:0] of the command word (R100). -/
def opField (w : Word) : BitVec 4 := w.extractLsb' 0 4

/-- RSVD, bits [31:4] of the command word (R100). -/
def rsvdField (w : Word) : BitVec 28 := w.extractLsb' 4 28

/-- `decode(w)` of R103: total, and ILLEGAL for every word but 1, 2 and 3. -/
def decode (w : Word) : Except IllegalWord Instr :=
  if rsvdField w ≠ 0 then .error .reservedBits
  else if opField w = 0x1 then .ok .setup
  else if opField w = 0x2 then .ok .encrypt
  else if opField w = 0x3 then .ok .hash
  else .error .unusedOp

/-- The OP value of a command (R101). -/
def Instr.op : Instr → BitVec 4
  | .setup => 0x1
  | .encrypt => 0x2
  | .hash => 0x3

/-- The command word of a command: OP in [3:0] below a zero RSVD (R100). -/
def encode (i : Instr) : Word := 0#28 ++ i.op

/-- The decoder on a word numbered as spec/opcode_table.json numbers it.  A command word is one
32-bit word, so a longer row that has a bit set above bit 31 is no command
(notes/assumptions/13). -/
def decodeTableWord (nbits w : Nat) : Option Instr :=
  let v := w % 2 ^ nbits
  if v < 2 ^ 32 then (decode (BitVec.ofNat 32 v)).toOption else none

end Sys2Proof
end

