-- ==== Sys2Proof/Config.lean ====
section
/-!
DEFINITION. What the platform fixes (the OPEN parameters of spec/92_eei_decisions.md) and the free
values of the spec.

A parameter is plain data (`Platform`), held in the state and changed by no step, so a statement
about every state is a statement about every value of the parameters.  A free value (`draw()` of
R8) has no body, so nothing can be proved of it.
-/

namespace Sys2Proof

/-- OPEN parameter `BUS_ERROR_EFFECT` (R268, decision D4): what a refused access does to the host.
The three values are the decision's own examples. -/
inductive BusErrorEffect where
  /-- The host program faults: the machine's step stops with `Fault.busError`. -/
  | fault
  /-- The host receives the bus's error response and goes on (an abort its own software handles). -/
  | respond
  /-- The access is dropped: a write does nothing, a read returns data 0. -/
  | drop
  deriving DecidableEq, Repr

/-- The platform's parameters that a step reads (logged in notes/assumptions/2 and
notes/assumptions/8). -/
structure Platform where
  /-- `BCRYPT_BASE / 0x4000`: R61 requires the base to be a multiple of 0x4000. -/
  baseIndex : Nat
  /-- `BUS_ERROR_EFFECT` (R268). -/
  busErrorEffect : BusErrorEffect
  /-- `BCRYPT_IRQ_LINE`, the host interrupt line that `irq` drives (R270). -/
  irqLine : Nat
  /-- `BCRYPT_ACCESS_POLICY` (R274, U13): the host software that may not reach the window. -/
  denied : List Nat
  /-- `HOST_ORDERED_DEVICE_ACCESS` (R74, U14): transactions reach the block in program order. -/
  ordered : Bool
  deriving DecidableEq, Repr

/-- `draw()` of R8: the n-th free word of a run, with no body and so under no law.  Every use takes
the next number from the counter `State.draws` (U2, U3 and U11 of spec/93_implementation_defined.md;
logged in notes/assumptions/3). -/
opaque Config.draw : Nat → Word

end Sys2Proof
end

