-- ==== Sys2Proof/HostSyntax.lean ====
section
/-!
DEFINITION. The vocabulary of the host side: the registers of the address map, the bus transactions
a host issues, and the assembly language in which the spec writes host programs.

Rules R21 (register names), R64 and R65 (accesses), R108 and R109 (host programs).
-/

namespace Sys2Proof

/-- The registers of the address map (R21), each group with its index range. -/
inductive Reg where
  | id | cmd | status | ctrl | cost | klen
  | salt  (w : Fin 4)
  | key   (w : Fin 18)
  | ctext (w : Fin 6)
  | hash  (w : Fin 6)
  | pswin (n : Fin 1042)
  deriving DecidableEq, Repr

/-- One bus transaction of the host, or one `poll`, which is a transaction repeated until its value
matches (R64, R65, R108).  `addr` is the host address, `bytes` the width of the access in bytes.  The
data of a write wider than a word is not carried, because the block refuses the access (R65). -/
inductive HostOp where
  /-- A write of `bytes` bytes at `addr`; `data` is what a 32-bit write presents. -/
  | write (addr bytes : Nat) (data : Word)
  /-- A read of `bytes` bytes at `addr`; `expect` is the value a test program asserts (R108). -/
  | read (addr bytes : Nat) (expect : Option Word)
  /-- A 32-bit read at `addr`, repeated until `(value & mask) == value'` (R108). -/
  | poll (addr : Nat) (mask value : Word)
  deriving DecidableEq, Repr

/-- A transaction as it is on its way to the block: the host software that issues it, by a number of
the model's, and the access.  The block itself does not see the issuer (R274); only the platform's
access policy reads it (notes/assumptions/8). -/
structure Transaction where
  issuer : Nat
  op     : HostOp
  deriving DecidableEq, Repr

/-- A register operand of the host assembly language: a name of R108, with its index as written, or a
raw offset `@0xOFF`.  Indexes are unchecked here; R110's check is `RegRef.resolve`. -/
inductive RegRef where
  | id | cmd | status | ctrl | cost | klen
  | salt (w : Nat) | key (w : Nat) | ctext (w : Nat) | hash (w : Nat) | pswin (n : Nat)
  | raw (off : Nat)
  deriving DecidableEq, Repr

/-- A statement of the host assembly language: the four core forms of R108 and the
pseudo-instructions of R109.  Numbers are as written; R110's check is `HostStmt.wf`. -/
inductive HostStmt where
  | wr (r : RegRef) (v : Nat)
  | rd (r : RegRef)
  | rdEq (r : RegRef) (v : Nat)
  | poll (r : RegRef) (m v : Nat)
  | setup | encrypt | hash | wait | ack
  | ldcost (c : Nat)
  | ldsalt (s0 s1 s2 s3 : Nat)
  | ldkey (text : List Byte)
  | ldkeyraw (n : Nat) (k : List Nat)
  deriving DecidableEq, Repr

end Sys2Proof
end

