-- ==== Sys2Proof/Machine/AddressMap.lean ====
section
/-!
DEFINITION. The register window: where each register lies, which register an offset selects, and which
accesses the block answers.

R21 and R61 to R65 of spec/10_state.md and spec/20_memory.md.
-/

namespace Sys2Proof.Machine

/-- `BCRYPT_BASE`, a multiple of 0x4000 (R61). -/
def windowBase (p : Platform) : Nat := 0x4000 * p.baseIndex

/-- The window's size in bytes (R61). -/
def windowSize : Nat := 0x4000

/-- The byte offset of a register from `BCRYPT_BASE` (R21). -/
def regOffset : Reg → Nat
  | .id => 0x000
  | .cmd => 0x004
  | .status => 0x008
  | .ctrl => 0x00C
  | .cost => 0x010
  | .klen => 0x014
  | .salt w => 0x020 + 4 * w.val
  | .key w => 0x040 + 4 * w.val
  | .ctext w => 0x0A0 + 4 * w.val
  | .hash w => 0x0C0 + 4 * w.val
  | .pswin n => 0x1000 + 4 * n.val

/-- The index of a word inside a group of `n` words that starts at word `base` of the window. -/
def groupIndex (base n word : Nat) : Option (Fin n) :=
  if h : base ≤ word ∧ word < base + n then some ⟨word - base, by omega⟩ else none

/-- The register that `off[13:2]` selects (R62); `none` is a reserved offset (R63). -/
def regAt (off : Nat) : Option Reg :=
  let word := off / 4
  if word = 0 then some .id
  else if word = 1 then some .cmd
  else if word = 2 then some .status
  else if word = 3 then some .ctrl
  else if word = 4 then some .cost
  else if word = 5 then some .klen
  else (groupIndex (0x020 / 4) 4 word).map .salt
    <|> (groupIndex (0x040 / 4) 18 word).map .key
    <|> (groupIndex (0x0A0 / 4) 6 word).map .ctext
    <|> (groupIndex (0x0C0 / 4) 6 word).map .hash
    <|> (groupIndex (0x1000 / 4) 1042 word).map .pswin

/-- How the block takes an access. -/
inductive Claim where
  /-- Outside the window: the block does not respond (R61), and the bus refuses the access (R110). -/
  | unclaimed
  /-- Inside the window but not an aligned 32-bit access: refused (R65). -/
  | refused
  /-- An aligned 32-bit access to a register, or to a reserved offset (`none`, R63). -/
  | accepted (r : Option Reg)
  deriving DecidableEq, Repr

/-- How the block takes an access of `bytes` bytes at host address `addr` (R61, R64, R65). -/
def claim (p : Platform) (addr bytes : Nat) : Claim :=
  if windowBase p ≤ addr ∧ addr < windowBase p + windowSize then
    let off := addr - windowBase p
    if bytes = 4 ∧ off % 4 = 0 then .accepted (regAt off) else .refused
  else .unclaimed

/-- The access policy lets host software `who` reach the window (R274). -/
def admits (p : Platform) (who : Nat) : Bool := !p.denied.contains who

/-- A number of host software that the access policy admits. -/
def admittedIssuer (p : Platform) : Nat := p.denied.sum + 1

/-- What becomes of an access by host software `who`: the access policy stops it on the way, and then it
is refused (notes/assumptions/8), or the block takes it as `claim` says, whoever issued it (R274). -/
def route (p : Platform) (who addr bytes : Nat) : Claim :=
  if admits p who then claim p addr bytes else .refused

end Sys2Proof.Machine
end

