-- ==== Sys2Proof/Machine/State.lean ====
section
/-!
DEFINITION. The state of the block and of the bus that drives it, as plain data, and the state after
reset.

The block's own state is everything R21 to R47 of spec/10_state.md give it.  The last five fields are
the model's: the platform's parameters, the host program and schedule the step reads, what the host
has received, and the counter of free values.
-/

namespace Sys2Proof.Machine

/-- Why the machine stops with a fault. -/
inductive Fault where
  /-- Raised by a host access that is refused (R65, R110) on a platform whose `BUS_ERROR_EFFECT` is a
  fault of the host program (R268, U5).  Safe: the block itself changes no state and could go on, so
  stopping shows fewer runs than the hardware has. -/
  | busError
  deriving DecidableEq, Repr

/-- Why an instruction is refused. -/
inductive Refusal where
  /-- Raised by an arm of `exec` whose instruction has no meaning yet.  Safe: no claim about that
  instruction can be proved from it.  No arm raises it now. -/
  | notModelled (mnemonic : String)
  deriving DecidableEq, Repr

/-- The Blowfish state: the P-array P[0..17] (R38) and the S-boxes S[0..3][0..255] (R39). -/
structure Blowfish where
  p : Vector Word 18
  s : Vector (Vector Word 256) 4
  deriving DecidableEq, Repr

/-- The engine's hidden state (R44): block halves L and R, working ciphertext C[0..5], iteration
counter t and position in the command's sequence.  No host read shows it and no step reads it. -/
structure Hidden where
  left  : Word
  right : Word
  work  : Vector Word 6
  iter  : Word
  pos   : Nat
  deriving DecidableEq, Repr

/-- Which agent moves in a step (R20, R240, R242, R290).  A list of turns is a schedule: it stands for
the OPEN parameter `LATENCY` and for every interleaving of R240. -/
inductive Turn where
  /-- One bus transaction of the host (R230, R231). -/
  | host
  /-- The engine's completion step; nothing happens when it is not enabled (R240). -/
  | engine
  /-- A host transaction and a completion in the same clock cycle (R25, R242). -/
  | sameCycle
  /-- The reset input `rst` (R290). -/
  | rst
  /-- On a platform without ordered device access, the interconnect lets the pending transaction with
  this index overtake those before it (R74); nothing happens on any other platform. -/
  | overtake (k : Nat)
  deriving DecidableEq, Repr

/-- The bus's answer to an access. -/
inductive Reply where
  /-- The data of a read (R231). -/
  | data (w : Word)
  /-- `busError()`: the access was refused (R65, R110, R268). -/
  | busError
  deriving DecidableEq, Repr

/-- One line of the host program's transcript (R108): the address, what the bus answered, and the
value the program asserts, if it asserts one. -/
structure Entry where
  addr   : Nat
  reply  : Reply
  expect : Option Word
  deriving DecidableEq, Repr

/-- The machine's state. -/
@[ext]
structure State where
  /-- STATUS.BUSY (R24). -/
  busy : Bool
  /-- STATUS.DONE (R25). -/
  done : Bool
  /-- STATUS.SV, "state valid" (R27). -/
  sv : Bool
  /-- STATUS.IGN (R28). -/
  ign : Bool
  /-- STATUS.ERRCODE (R29). -/
  errcode : BitVec 4
  /-- CTRL.IE (R31). -/
  ie : Bool
  /-- COST[4:0] (R32). -/
  cost : BitVec 5
  /-- KLEN[6:0] (R33). -/
  klen : BitVec 7
  /-- SALT0 to SALT3 (R34). -/
  salt : Vector Word 4
  /-- KEY0 to KEY17 (R35). -/
  key : Vector Word 18
  /-- CTEXT0 to CTEXT5 (R36). -/
  ctext : Vector Word 6
  /-- HASH0 to HASH5 (R37). -/
  hash : Vector Word 6
  /-- P and S (R38, R39). -/
  bf : Blowfish
  /-- CUR_OP, `none` when no command runs (R43). -/
  curOp : Option Instr
  /-- The engine's hidden state (R44). -/
  hidden : Hidden
  /-- The platform's parameters (R5, R74, R268, R270, R274). -/
  platform : Platform
  /-- The host transactions still to come, the first of them the next the block receives (R72, R74;
  notes/assumptions/8). -/
  program : List Transaction
  /-- The turns still to come (R240). -/
  sched : List Turn
  /-- What the host has received, newest first (R108). -/
  transcript : List Entry
  /-- How many free values the run has drawn (R8). -/
  draws : Nat
  deriving DecidableEq, Repr

/-- The platform assumed at reset, one choice among the values of the OPEN parameters (DESIGN CHOICE,
notes/assumptions/2). -/
def Platform.initial : Platform :=
  { baseIndex := 0, busErrorEffect := .fault, irqLine := 0, denied := [], ordered := true }

/-- P and S at reset: all zero, because the spec gives no value (DESIGN CHOICE,
notes/assumptions/4). -/
def Blowfish.zero : Blowfish :=
  { p := Vector.replicate 18 0, s := Vector.replicate 4 (Vector.replicate 256 0) }

/-- The hidden state at reset: all zero, because the spec gives no value (DESIGN CHOICE,
notes/assumptions/4). -/
def Hidden.zero : Hidden :=
  { left := 0, right := 0, work := Vector.replicate 6 0, iter := 0, pos := 0 }

/-- The state after reset: the table of R47.  No host program is loaded and nothing is scheduled. -/
def State.reset : State where
  busy := false
  done := false
  sv := false
  ign := false
  errcode := 0
  ie := false
  cost := 0
  klen := 0
  salt := Vector.replicate 4 0
  key := Vector.replicate 18 0
  ctext := magic
  hash := Vector.replicate 6 0
  bf := Blowfish.zero
  curOp := none
  hidden := Hidden.zero
  platform := Platform.initial
  program := []
  sched := []
  transcript := []
  draws := 0

end Sys2Proof.Machine
end

