-- ==== Sys2Proof/Machine/Blowfish.lean ====
section
/-!
DEFINITION. The Blowfish datapath: the round function F, Encipher and its inverse.

R130 to R133 of spec/40_blowfish_core.md.
-/

namespace Sys2Proof.Machine

/-- `P[i]` (R8, R38). -/
def Blowfish.pWord (bf : Blowfish) (i : Fin 18) : Word := bf.p.get i

/-- `S[b][i]` (R8, R39). -/
def Blowfish.sWord (bf : Blowfish) (b : Fin 4) (i : Fin 256) : Word := (bf.s.get b).get i

/-- `P[i] <- v` (R8). -/
def Blowfish.setP (bf : Blowfish) (i : Fin 18) (v : Word) : Blowfish :=
  { bf with p := bf.p.set i.val v i.isLt }

/-- `S[b][i] <- v` (R8). -/
def Blowfish.setS (bf : Blowfish) (b : Fin 4) (i : Fin 256) (v : Word) : Blowfish :=
  { bf with s := bf.s.set b.val ((bf.s.get b).set i.val v i.isLt) b.isLt }

/-- `F(x)` under the current S-boxes (R131). -/
def Blowfish.f (bf : Blowfish) (x : Word) : Word :=
  let a := (x.extractLsb' 24 8).toFin
  let b := (x.extractLsb' 16 8).toFin
  let c := (x.extractLsb' 8 8).toFin
  let d := (x.extractLsb' 0 8).toFin
  ((bf.sWord 0 a + bf.sWord 1 b) ^^^ bf.sWord 2 c) + bf.sWord 3 d

/-- One round with the round key `k`: `L <- L ^ k; R <- R ^ F(L); (L, R) <- (R, L)` (R132). -/
def Blowfish.round (bf : Blowfish) (x : Block) (k : Word) : Block :=
  let l := x.1 ^^^ k
  (x.2 ^^^ bf.f l, l)

/-- P[0] to P[15], the round keys of Encipher in the order it uses them (R132). -/
def Blowfish.roundKeys (bf : Blowfish) : List Word :=
  (List.finRange 16).map fun i => bf.pWord ⟨i.val, by omega⟩

/-- P[17] down to P[2], the round keys of Decipher in the order it uses them (R133). -/
def Blowfish.roundKeysDown (bf : Blowfish) : List Word :=
  (List.finRange 16).map fun i => bf.pWord ⟨17 - i.val, by omega⟩

/-- `Encipher(L, R)` under the current P and S (R132). -/
def Blowfish.encipher (bf : Blowfish) (x : Block) : Block :=
  let y := bf.roundKeys.foldl bf.round x
  (y.2 ^^^ bf.pWord 17, y.1 ^^^ bf.pWord 16)

/-- `Decipher(L, R)`, the inverse of Encipher (R133).  It is a property of the datapath, not an
operation of the block. -/
def Blowfish.decipher (bf : Blowfish) (x : Block) : Block :=
  let y := bf.roundKeysDown.foldl bf.round x
  (y.2 ^^^ bf.pWord 0, y.1 ^^^ bf.pWord 1)

end Sys2Proof.Machine
end

