-- ==== Sys2Proof/Machine/Operands.lean ====
section
/-!
DEFINITION. The operand forms of the commands: byte packing in register words and the key, salt and
salt-as-key streams.

R66 of spec/20_memory.md, R105 to R107 of spec/30_encoding.md, R134 to R136 of
spec/40_blowfish_core.md.
-/

namespace Sys2Proof.Machine

/-- Byte `m` of a register word, m in 0..3, byte 0 in bits [31:24] (R66). -/
def wordByte (w : Word) (m : Nat) : Byte := w.extractLsb' (24 - 8 * m) 8

/-- Byte `j` of a stream packed big-endian into register words (R66).  The stream has `4 * n` bytes;
past its end there is no byte, and the function is total only so that it needs no proof at each use
(notes/assumptions/6). -/
def streamByte {n : Nat} (ws : Vector Word n) (j : Nat) : Byte :=
  wordByte (ws.toList.getD (j / 4) 0) (j % 4)

/-- `K[j]`, j in 0..71 (R66). -/
def keyByte (key : Vector Word 18) (j : Nat) : Byte := streamByte key j

/-- `SaltByte[j]`, j in 0..15 (R66). -/
def saltByte (salt : Vector Word 4) (j : Nat) : Byte := streamByte salt j

/-- `HashByte[j]`, j in 0..23 (R66, R202). -/
def hashByte (hash : Vector Word 6) (j : Nat) : Byte := streamByte hash j

/-- Byte `j` of the plaintext, j in 0..23 (R66). -/
def ctextByte (ctext : Vector Word 6) (j : Nat) : Byte := streamByte ctext j

/-- Four bytes as a word, the first most significant (R134). -/
def packWord (a b c d : Byte) : Word := a ++ b ++ c ++ d

/-- Word `i` of a cyclic byte stream of `n` bytes (R134). -/
def cyclicWord (byte : Nat → Byte) (n i : Nat) : Word :=
  packWord (byte (4 * i % n)) (byte ((4 * i + 1) % n)) (byte ((4 * i + 2) % n))
    (byte ((4 * i + 3) % n))

/-- `KeyWord(i)` for the key buffer and n = KLEN (R134). -/
def keyWord (key : Vector Word 18) (n i : Nat) : Word := cyclicWord (keyByte key) n i

/-- `SaltWord(i) = SALT(i mod 4)` (R135). -/
def saltWord (salt : Vector Word 4) (i : Nat) : Word := salt.get ⟨i % 4, by omega⟩

/-- `SaltKeyWord(i)`: the key stream with K replaced by the salt bytes and n = 16 (R136). -/
def saltKeyWord (salt : Vector Word 4) (i : Nat) : Word := cyclicWord (saltByte salt) 16 i

end Sys2Proof.Machine
end

