-- ==== Sys2Proof/Machine/KeyExpansion.lean ====
section
/-!
DEFINITION. The expensive key schedule: InitState, the salted and the unsalted expansion, EksSetup.

R160 to R166 of spec/41_key_expansion.md.  Every write to P or S takes effect at once: each later
Encipher reads the partly updated state.
-/

namespace Sys2Proof.Machine

/-- `InitState()`: P takes ROM[0..17] and S-box b takes ROM[18 + 256 b .. 18 + 256 b + 255] (R160).
The words are taken table by table; that they are the ROM words R160 names is the statement
`Obligations.InitStateLoadsTheRom`. -/
def initState : Blowfish :=
  { p := wordsOf 18 romP (by decide +kernel)
    s := #v[wordsOf 256 romS0 (by decide +kernel), wordsOf 256 romS1 (by decide +kernel), wordsOf 256 romS2 (by decide +kernel),
      wordsOf 256 romS3 (by decide +kernel)] }

/-- `XorKeyIntoP(stream)` (R161). -/
def xorKeyIntoP (stream : Nat → Word) (bf : Blowfish) : Blowfish :=
  (List.finRange 18).foldl (fun bf i => bf.setP i (bf.pWord i ^^^ stream i.val)) bf

/-- The running values of an expansion: P and S, the chained block (L, R) and the salt index j
(R162). -/
structure Chain where
  bf : Blowfish
  x  : Block
  j  : Nat
  deriving DecidableEq, Repr

/-- What is exclusive-ored into the chained block before its next encryption, at salt index j. -/
abbrev Mix := Nat → Block → Block

/-- The salted expansion's mixing: `L ^ SaltWord(j)`, `R ^ SaltWord(j + 1)` (R162). -/
def saltMix (salt : Vector Word 4) : Mix :=
  fun j x => (x.1 ^^^ saltWord salt j, x.2 ^^^ saltWord salt (j + 1))

/-- The unsalted expansion mixes nothing into the chain (R163). -/
def noMix : Mix := fun _ x => x

/-- The next block of the chain: mix, encipher, advance the salt index by two (R162, R163). -/
def Chain.advance (mix : Mix) (c : Chain) : Chain :=
  { c with x := c.bf.encipher (mix c.j c.x), j := c.j + 2 }

/-- One block of the P phase: `P[2i] <- L; P[2i + 1] <- R` (R162, R163). -/
def Chain.fillP (mix : Mix) (c : Chain) (i : Fin 9) : Chain :=
  let c := c.advance mix
  { c with
    bf := (c.bf.setP ⟨2 * i.val, by omega⟩ c.x.1).setP ⟨2 * i.val + 1, by omega⟩ c.x.2 }

/-- One block of the S phase: `S[b][2i] <- L; S[b][2i + 1] <- R` (R162, R163). -/
def Chain.fillS (mix : Mix) (b : Fin 4) (c : Chain) (i : Fin 128) : Chain :=
  let c := c.advance mix
  { c with
    bf := (c.bf.setS b ⟨2 * i.val, by omega⟩ c.x.1).setS b ⟨2 * i.val + 1, by omega⟩ c.x.2 }

/-- The nine blocks of the P phase, in order. -/
def pBlocks : List (Fin 9) := List.finRange 9

/-- The four S-boxes, in order. -/
def sBoxes : List (Fin 4) := List.finRange 4

/-- The 128 blocks of one S-box, in order. -/
def sBlocks : List (Fin 128) := List.finRange 128

/-- The P phase of an expansion. -/
def Chain.fillAllP (mix : Mix) (c : Chain) : Chain := pBlocks.foldl (Chain.fillP mix) c

/-- The S phase of an expansion; the chain runs on from one box to the next. -/
def Chain.fillAllS (mix : Mix) (c : Chain) : Chain :=
  sBoxes.foldl (fun c b => sBlocks.foldl (Chain.fillS mix b) c) c

/-- The part both expansions share: one chain from the zero block through P and then S. -/
def refill (mix : Mix) (bf : Blowfish) : Blowfish :=
  ((Chain.fillAllP mix { bf := bf, x := (0, 0), j := 0 }).fillAllS mix).bf

/-- `ExpandState()`, the salted expansion, for the key stream and the salt (R162). -/
def expandState (keyStream : Nat → Word) (salt : Vector Word 4) (bf : Blowfish) : Blowfish :=
  refill (saltMix salt) (xorKeyIntoP keyStream bf)

/-- `Expand0State(stream)`, the unsalted expansion (R163). -/
def expand0State (stream : Nat → Word) (bf : Blowfish) : Blowfish :=
  refill noMix (xorKeyIntoP stream bf)

/-- `f` applied `n` times. -/
def iterate {α : Type} (f : α → α) : Nat → α → α
  | 0, x => x
  | n + 1, x => iterate f n (f x)

/-- One iteration of the loop of R164: the key first, then the salt. -/
def eksIteration (keyStream saltStream : Nat → Word) (bf : Blowfish) : Blowfish :=
  expand0State saltStream (expand0State keyStream bf)

/-- `EksSetup(c, n, K, SALT)` (R164); its loop runs 2^c times (R165).  Irreducible, so that no
proof about a state unfolds the schedule unasked. -/
@[irreducible] def eksSetup (c n : Nat) (key : Vector Word 18) (salt : Vector Word 4) : Blowfish :=
  iterate (eksIteration (keyWord key n) (saltKeyWord salt)) (2 ^ c)
    (expandState (keyWord key n) salt initState)

/-- The Encipher calls of one expansion: one for each block of the two phases (R166). -/
def enciphersPerExpansion : Nat := pBlocks.length + sBoxes.length * sBlocks.length

/-- The Encipher calls of EksSetup at cost c (R166). -/
def setupEnciphers (c : Nat) : Nat := enciphersPerExpansion * (1 + 2 * 2 ^ c)

end Sys2Proof.Machine
end

