-- ==== Sys2Proof/Machine/Finalization.lean ====
section
/-!
DEFINITION. The finalisation: the 64-fold encryption of six words, and the bcrypt checksum.

R200 to R203 of spec/42_finalization.md.
-/

namespace Sys2Proof.Machine

/-- Block `k` of six words: (word 2k, word 2k + 1), the left half first (R107). -/
def blockOf (c : Vector Word 6) (k : Fin 3) : Block :=
  (c.get ⟨2 * k.val, by omega⟩, c.get ⟨2 * k.val + 1, by omega⟩)

/-- Block `k` of six words, replaced. -/
def setBlock (c : Vector Word 6) (k : Fin 3) (x : Block) : Vector Word 6 :=
  (c.set (2 * k.val) x.1 (by omega)).set (2 * k.val + 1) x.2 (by omega)

/-- One pass over the three blocks, each enciphered on its own (R201). -/
def encryptPass (bf : Blowfish) (c : Vector Word 6) : Vector Word 6 :=
  (List.finRange 3).foldl (fun c k => setBlock c k (bf.encipher (blockOf c k))) c

/-- The number of passes, fixed (R5, R201). -/
def finalPasses : Nat := 64

/-- `Encrypt64(C[0..5])` under P and S (R201).  Irreducible, so that no proof about a state unfolds the
passes unasked. -/
@[irreducible] def encrypt64 (bf : Blowfish) (c : Vector Word 6) : Vector Word 6 :=
  iterate (encryptPass bf) finalPasses c

/-- `BcryptChecksum(c, n, K, SALT)` (R203). -/
def bcryptChecksum (c n : Nat) (key : Vector Word 18) (salt : Vector Word 4) : Vector Word 6 :=
  encrypt64 (eksSetup c n key salt) magic

end Sys2Proof.Machine
end

