-- ==== Sys2Proof/Machine/Flags.lean ====
section
/-!
DEFINITION. STATUS, CTRL and the interrupt output: the words a host reads, the error codes, and the
checks a command passes before it runs.

The block has no arithmetic flags (R45), so these are all its flags.  R24 to R33 and R46 of
spec/10_state.md, R261 to R266 and R270 of spec/60_exceptions.md.
-/

namespace Sys2Proof.Machine

/-- The errors a command can end with (R261). -/
inductive CmdError where
  | illegalCmd | invalidCost | invalidKlen | noState
  deriving DecidableEq, Repr

/-- The value of STATUS.ERRCODE for an error (R261). -/
def errorCode : CmdError → BitVec 4
  | .illegalCmd => 1
  | .invalidCost => 2
  | .invalidKlen => 3
  | .noState => 4

/-- STATUS.ERR reads 1 exactly when ERRCODE is not 0; it has no storage (R26). -/
def State.err (s : State) : Bool := s.errcode != 0

/-- A read of STATUS: `{20'b0, ERRCODE, 3'b0, IGN, SV, ERR, DONE, BUSY}` (R30). -/
def State.statusWord (s : State) : Word :=
  0#20 ++ s.errcode ++ 0#3 ++ BitVec.ofBool s.ign ++ BitVec.ofBool s.sv ++ BitVec.ofBool s.err ++
    BitVec.ofBool s.done ++ BitVec.ofBool s.busy

/-- A read of CTRL: `{31'b0, IE}` (R31). -/
def State.ctrlWord (s : State) : Word := 0#31 ++ BitVec.ofBool s.ie

/-- A read of COST: `{27'b0, COST[4:0]}` (R32). -/
def State.costWord (s : State) : Word := 0#27 ++ s.cost

/-- A read of KLEN: `{25'b0, KLEN[6:0]}` (R33). -/
def State.klenWord (s : State) : Word := 0#25 ++ s.klen

/-- The interrupt output: `STATUS.DONE & CTRL.IE`, a level (R46, R270). -/
def State.irq (s : State) : Bool := s.done && s.ie

/-- The level of host interrupt line `line`, as the block drives it: `irq` on the line
`BCRYPT_IRQ_LINE` and nothing on any other (R270). -/
def State.irqLineLevel (s : State) (line : Nat) : Bool := decide (line = s.platform.irqLine) && s.irq

/-- `check(SETUP) = check(HASH)`: the cost first, then the key length (R263, R264, R266). -/
def operandCheck (s : State) : Option CmdError :=
  if s.cost.toNat < 4 then some .invalidCost
  else if s.klen.toNat = 0 ∨ 72 < s.klen.toNat then some .invalidKlen
  else none

/-- `check(ENCRYPT)`: a valid expanded state (R265, R266). -/
def stateCheck (s : State) : Option CmdError := if s.sv then none else some .noState

/-- A write of 1 to STATUS[1] clears DONE and to STATUS[4] clears IGN; no other bit of the written
word has an effect (R233). -/
def State.clearByOne (v : Word) (s : State) : State :=
  { s with done := s.done && !v.getLsbD 1, ign := s.ign && !v.getLsbD 4 }

end Sys2Proof.Machine
end

