-- ==== Sys2Proof/Machine/Ops.lean ====
section
/-!
DEFINITION. The named operations on the state: register writes, the life of a command (acceptance,
error end, start, completion), free values, and reset.

The error end (`State.endWithError`, R267) is this block's counterpart of taking an exception, and the
clearing at the next acceptance (`State.clearResult`, R232) or by a W1C write (`State.clearByOne`,
R233) is its counterpart of returning from one (R272, R273).
-/

namespace Sys2Proof.Machine

/-! ### Free values -/

/-- The hidden state after a command or a reset: free values from number `n` on (R44, U11). -/
def freeHidden (n : Nat) : Hidden :=
  { left := Config.draw n
    right := Config.draw (n + 1)
    work := Vector.ofFn fun i => Config.draw (n + 2 + i.val)
    iter := Config.draw (n + 8)
    pos := (Config.draw (n + 9)).toNat }

/-- How many free values `freeHidden` takes. -/
def hiddenDraws : Nat := 10

/-- P and S after a reset step: free values from number `n` on (R290, U3). -/
def freeBlowfish (n : Nat) : Blowfish :=
  { p := Vector.ofFn fun i => Config.draw (n + i.val)
    s := Vector.ofFn fun b => Vector.ofFn fun i => Config.draw (n + 18 + 256 * b.val + i.val) }

/-- How many free values `freeBlowfish` takes. -/
def blowfishDraws : Nat := 1042

/-! ### Register writes -/

/-- A write to a busy-locked register while BUSY = 1 is lost and sets IGN (R28, R230). -/
def State.ignoreWrite (s : State) : State := { s with ign := true }

/-- A write to a busy-locked register: stored while idle, lost while a command runs (R230, R235). -/
def State.lockedWrite (store : State → State) (s : State) : State :=
  if s.busy then s.ignoreWrite else store s

/-- CTRL: IE <- v[0] (R234). -/
def State.setCtrl (v : Word) (s : State) : State := { s with ie := v.getLsbD 0 }

/-- COST <- v[4:0] (R235). -/
def State.setCost (v : Word) (s : State) : State := { s with cost := v.extractLsb' 0 5 }

/-- KLEN <- v[6:0] (R235). -/
def State.setKlen (v : Word) (s : State) : State := { s with klen := v.extractLsb' 0 7 }

/-- SALTw <- v (R235). -/
def State.setSalt (w : Fin 4) (v : Word) (s : State) : State :=
  { s with salt := s.salt.set w.val v w.isLt }

/-- KEYw <- v (R235). -/
def State.setKey (w : Fin 18) (v : Word) (s : State) : State :=
  { s with key := s.key.set w.val v w.isLt }

/-- CTEXTw <- v (R235). -/
def State.setCtext (w : Fin 6) (v : Word) (s : State) : State :=
  { s with ctext := s.ctext.set w.val v w.isLt }

/-- The host records what the bus answered (R108). -/
def State.record (e : Entry) (s : State) : State := { s with transcript := e :: s.transcript }

/-! ### The life of a command -/

/-- `DONE <- 0; ERRCODE <- 0`, the first effect of every accepted command (R232). -/
def State.clearResult (s : State) : State := { s with done := false, errcode := 0 }

/-- `ERRCODE <- e; DONE <- 1`: a command that fails its check ends at once (R232, R267). -/
def State.endWithError (e : CmdError) (s : State) : State :=
  { s with errcode := errorCode e, done := true }

/-- `SV <- 0`, when a SETUP or HASH starts (R232). -/
def State.invalidate (s : State) : State := { s with sv := false }

/-- `BUSY <- 1; CUR_OP <- op` (R232). -/
def State.start (i : Instr) (s : State) : State := { s with busy := true, curOp := some i }

/-- `BUSY <- 0; CUR_OP <- none; DONE <- 1`, the end of every completion (R241).  The hidden state is
left with free values (R44, U11). -/
def State.complete (s : State) : State :=
  { s with
    busy := false, curOp := none, done := true
    hidden := freeHidden s.draws, draws := s.draws + hiddenDraws }

/-- `(P, S) <- EksSetup(c, n, K, SALT); SV <- 1` with the operands in the input registers (R241). -/
def State.expandKey (s : State) : State :=
  { s with bf := eksSetup s.cost.toNat s.klen.toNat s.key s.salt, sv := true }

/-- `HASH[0..5] <- Encrypt64(c)` under the current P and S (R241). -/
def State.storeHash (c : Vector Word 6) (s : State) : State := { s with hash := encrypt64 s.bf c }

/-- Acceptance of a command whose check is `check` and whose start does `claim` first (R232).  The
checks do not read what `clearResult` clears, so they may be evaluated on either state. -/
def State.accept (i : Instr) (check : State → Option CmdError) (claim : State → State) (s : State) :
    State :=
  match check s with
  | some e => s.clearResult.endWithError e
  | none => (claim s.clearResult).start i

/-- Acceptance of an illegal command word: ILLEGAL_CMD (R232, R262). -/
def State.acceptIllegal (s : State) : State := s.clearResult.endWithError .illegalCmd

/-- What instruction `i` does in state `s`.  With BUSY = 0 it is accepted (R232).  With BUSY = 1 and
`i` the running command it completes, with the effect `finish` (R241).  With BUSY = 1 and another
command running, `i` can only be a lost CMD write (R230). -/
def command (i : Instr) (check : State → Option CmdError) (claim finish : State → State) (s : State) :
    Host.Outcome State Fault Refusal :=
  if s.busy then
    if s.curOp = some i then .next (finish s).complete else .next s.ignoreWrite
  else .next (s.accept i check claim)

/-! ### Reset -/

/-- The reset step: every piece of the block's state takes the value of R47, with P, S and the hidden
state free (R290).  The platform, the host program, the schedule and the transcript are not the
block's and stay (notes/assumptions/11). -/
def State.resetStep (s : State) : State :=
  { State.reset with
    bf := freeBlowfish s.draws
    hidden := freeHidden (s.draws + blowfishDraws)
    draws := s.draws + (blowfishDraws + hiddenDraws)
    platform := s.platform
    program := s.program
    sched := s.sched
    transcript := s.transcript }

end Sys2Proof.Machine
end

