-- ==== Sys2Proof/Machine/Commands.lean ====
section
/-!
DEFINITION. The meanings of the three commands.

A meaning covers both moments of a command, its acceptance and its completion (see `command`): the
first is a step of the host that writes CMD (R232), the second a step of the engine (R241).
-/

namespace Sys2Proof.Machine

/-- SETUP (R167): checks COST and KLEN, invalidates the old state, and at completion leaves the
expanded state in P and S. -/
def execSetup (s : State) : Host.Outcome State Fault Refusal :=
  command .setup operandCheck State.invalidate State.expandKey s

/-- ENCRYPT (R204): needs a valid state, and at completion leaves the 64-fold encryption of CTEXT in
HASH0..5. -/
def execEncrypt (s : State) : Host.Outcome State Fault Refusal :=
  command .encrypt stateCheck (fun s => s) (fun s => s.storeHash s.ctext) s

/-- HASH (R205): the checks and the key schedule of SETUP, then the 64-fold encryption of the magic
plaintext; CTEXT is not read. -/
def execHash (s : State) : Host.Outcome State Fault Refusal :=
  command .hash operandCheck State.invalidate (fun s => s.expandKey.storeHash magic) s

end Sys2Proof.Machine
end

