-- ==== Sys2Proof/Machine/Bus.lean ====
section
/-!
DEFINITION. The steps of the two agents: the host's bus transactions, the engine's completion, and the
reset input.

R230 to R243 of spec/43_host_access.md, R61 to R74 of spec/20_memory.md, R268 and R274 of
spec/60_exceptions.md, R290 and R291 of spec/70_reset_and_hazards.md.
-/

namespace Sys2Proof.Machine

/-! ### Reads -/

/-- PSWIN[n]: P[0..17], then S[0..3][0..255] (R40, R238). -/
def Blowfish.window (bf : Blowfish) (n : Fin 1042) : Word :=
  if h : n.val < 18 then bf.pWord ⟨n.val, h⟩
  else bf.sWord ⟨(n.val - 18) / 256, by omega⟩ ⟨(n.val - 18) % 256, by omega⟩

/-- PSWIN shows the state only while the engine is idle and the state is valid (R40, R238). -/
def State.windowOpen (s : State) : Bool := !s.busy && s.sv

/-- The value a read of a register returns when it is not a free value (R231); `none` is a reserved
offset, which reads 0 (R63). -/
def State.regWord (s : State) : Option Reg → Word
  | some .id => idValue
  | some .cmd => 0
  | some .status => s.statusWord
  | some .ctrl => s.ctrlWord
  | some .cost => s.costWord
  | some .klen => s.klenWord
  | some (.salt w) => s.salt.get w
  | some (.key w) => s.key.get w
  | some (.ctext w) => s.ctext.get w
  | some (.hash w) => s.hash.get w
  | some (.pswin n) => s.bf.window n
  | none => 0

/-- The read of a register is a `draw()`: PSWIN while the window is not open (R238). -/
def State.readsFree (s : State) : Option Reg → Bool
  | some (.pswin _) => !s.windowOpen
  | _ => false

/-- The value a read returns, and the state with any free value it took marked as taken (R231, R238).
The block's own state is not changed (R69). -/
def State.readReg (s : State) (r : Option Reg) : Word × State :=
  if s.readsFree r then (Config.draw s.draws, { s with draws := s.draws + 1 })
  else (s.regWord r, s)

/-! ### Writes -/

/-- A write to CMD: lost while BUSY = 1 and then not decoded, otherwise decoded and accepted (R104,
R230, R232). -/
def writeCmd (v : Word) (s : State) : Host.Outcome State Fault Refusal :=
  if s.busy then .next s.ignoreWrite
  else match decode v with
    | .ok i => exec i s
    | .error _ => .next s.acceptIllegal

/-- A write of a register other than CMD (R230, R233 to R236). -/
def State.writeReg (r : Option Reg) (v : Word) (s : State) : State :=
  match r with
  | some .status => s.clearByOne v
  | some .ctrl => s.setCtrl v
  | some .cost => s.lockedWrite (State.setCost v)
  | some .klen => s.lockedWrite (State.setKlen v)
  | some (.salt w) => s.lockedWrite (State.setSalt w v)
  | some (.key w) => s.lockedWrite (State.setKey w v)
  | some (.ctext w) => s.lockedWrite (State.setCtext w v)
  | some .id | some .cmd | some (.hash _) | some (.pswin _) | none => s

/-- An accepted 32-bit write (R230). -/
def busWrite (r : Option Reg) (v : Word) (s : State) : Host.Outcome State Fault Refusal :=
  if r = some .cmd then writeCmd v s else .next (s.writeReg r v)

/-! ### Transactions -/

/-- What a read access answers, and the state after it; `none` when the platform makes a refused
access a fault of the host program (R65, R110, R268). -/
def readReply (who addr bytes : Nat) (s : State) : Option (Reply × State) :=
  match route s.platform who addr bytes with
  | .accepted r => some (.data (s.readReg r).1, (s.readReg r).2)
  | .refused | .unclaimed =>
    match s.platform.busErrorEffect with
    | .fault => none
    | .respond => some (.busError, s)
    | .drop => some (.data 0, s)

/-- One read transaction of the host: its answer goes to the transcript (R108, R231). -/
def hostRead (who addr bytes : Nat) (expect : Option Word) (s : State) :
    Host.Outcome State Fault Refusal :=
  match readReply who addr bytes s with
  | none => .fault .busError
  | some (reply, s) => .next (s.record { addr := addr, reply := reply, expect := expect })

/-- One write transaction of the host (R230).  A write the block does not take changes no state of the
block (R61, R65); the host records the bus's error response to it. -/
def hostWrite (who addr bytes : Nat) (v : Word) (s : State) : Host.Outcome State Fault Refusal :=
  match route s.platform who addr bytes with
  | .accepted r => busWrite r v s
  | .refused | .unclaimed =>
    match s.platform.busErrorEffect with
    | .fault => .fault .busError
    | .respond => .next (s.record { addr := addr, reply := .busError, expect := none })
    | .drop => .next s

/-- The `poll` ends: its value matches under the mask, or the bus gave it no data (R108;
notes/assumptions/10). -/
def pollEnds (mask value : Word) : Reply → Bool
  | .data w => w &&& mask == value
  | .busError => true

/-- One read of a `poll` at the head of the program: the `poll` stays there until it ends (R108). -/
def hostPoll (who addr : Nat) (mask value : Word) (rest : List Transaction) (s : State) :
    Host.Outcome State Fault Refusal :=
  match readReply who addr 4 s with
  | none => .fault .busError
  | some (reply, s) =>
    let s := s.record { addr := addr, reply := reply, expect := none }
    .next (if pollEnds mask value reply then { s with program := rest } else s)

/-- The host's turn: the next transaction of its program, if it has one (R20, R72). -/
def hostTurn (s : State) : Host.Outcome State Fault Refusal :=
  match s.program with
  | [] => .next s
  | ⟨who, .write addr bytes v⟩ :: rest => hostWrite who addr bytes v { s with program := rest }
  | ⟨who, .read addr bytes e⟩ :: rest => hostRead who addr bytes e { s with program := rest }
  | ⟨who, .poll addr m v⟩ :: rest => hostPoll who addr m v rest s

/-- The engine's turn: the completion of the running command, enabled exactly when BUSY = 1 (R240,
R241).  With BUSY = 1 and no command, which no run reaches (R43), only R241's common end remains
(notes/assumptions/9). -/
def engineTurn (s : State) : Host.Outcome State Fault Refusal :=
  if s.busy then
    match s.curOp with
    | some i => exec i s
    | none => .next s.complete
  else .next s

/-- A host transaction and a completion in one clock cycle: the transaction is ordered first (R242).
A command accepted in this very cycle does not complete in it (R298; notes/assumptions/7). -/
def sameCycleTurn (s : State) : Host.Outcome State Fault Refusal :=
  match hostTurn s with
  | .next t => if s.busy then engineTurn t else .next t
  | stop => stop

/-- The turn that comes next: the head of the schedule.  With no schedule left, a running command
completes, and otherwise the host goes on with its program (the fairness of R240;
notes/assumptions/1). -/
def nextTurn (s : State) : Turn :=
  match s.sched with
  | t :: _ => t
  | [] => if s.busy then .engine else .host

/-- The pending transaction with index `k` first, the others in their order. -/
def moveToFront (k : Nat) (program : List Transaction) : List Transaction :=
  match program[k]? with
  | some tx => tx :: program.eraseIdx k
  | none => program

/-- The interconnect lets pending transaction `k` overtake, where the platform does not keep the order
(R74). -/
def State.overtake (k : Nat) (s : State) : State :=
  if s.platform.ordered then s else { s with program := moveToFront k s.program }

/-- One turn (R20, R74, R240, R290). -/
def takeTurn (t : Turn) (s : State) : Host.Outcome State Fault Refusal :=
  match t with
  | .host => hostTurn s
  | .engine => engineTurn s
  | .sameCycle => sameCycleTurn s
  | .rst => .next s.resetStep
  | .overtake k => .next (s.overtake k)

/-- The host's write of `v` to CMD, as a transaction of its program (R100, R108).  A number that does
not fit in 32 bits is no command word, only a wider access, which the block refuses (R65). -/
def cmdWrite (p : Platform) (v : Nat) : HostOp :=
  .write (windowBase p + regOffset .cmd) (if v < 2 ^ 32 then 4 else 8) (BitVec.ofNat 32 v)

end Sys2Proof.Machine
end

