-- ==== Sys2Proof/Machine/Step.lean ====
section
/-!
DEFINITION. One step of the machine, and the placing of a command word where the next step takes it.
-/

namespace Sys2Proof.Machine

/-- One step: the next turn is taken off the schedule and carried out (R20, R240). -/
def step (s : State) : Host.Outcome State Fault Refusal :=
  takeTurn (nextTurn s) { s with sched := s.sched.tail }

/-- The state in which the very next step is the host's write of the command word `w` to CMD, by software
the access policy admits, with the engine idle so that the word is decoded (R104; notes/assumptions/5). -/
def State.withFetchWord (s : State) (nbits w : Nat) : State :=
  { s with
    busy := false
    curOp := none
    program := ⟨admittedIssuer s.platform, cmdWrite s.platform (w % 2 ^ nbits)⟩ :: s.program
    sched := .host :: s.sched }

end Sys2Proof.Machine
end

