-- ==== Sys2Proof/WellFormed.lean ====
section
/-!
DEFINITION. What is checked of a term before it is used.

A command has no operand field (R100), so every `Instr` is well formed.  A statement of the host
assembly language is checked as R110 says.
-/

namespace Sys2Proof

/-- Every command is well formed: R100 gives the command word no register, immediate or operand
field that could be out of range. -/
def Instr.wf : Instr → Bool
  | .setup | .encrypt | .hash => true

/-- A register operand names a register of R108: its index is in the range of R21.  A raw offset is
always accepted by the assembler (R110). -/
def RegRef.wf : RegRef → Bool
  | .id | .cmd | .status | .ctrl | .cost | .klen => true
  | .salt w => decide (w < 4)
  | .key w => decide (w < 18)
  | .ctext w => decide (w < 6)
  | .hash w => decide (w < 6)
  | .pswin n => decide (n < 1042)
  | .raw _ => true

/-- A number of a host program fits in 32 bits (R110). -/
def fitsWord (v : Nat) : Bool := decide (v < 2 ^ 32)

/-- The assembler accepts the statement (R110). -/
def HostStmt.wf : HostStmt → Bool
  | .wr r v => r.wf && fitsWord v
  | .rd r => r.wf
  | .rdEq r v => r.wf && fitsWord v
  | .poll r m v => r.wf && fitsWord m && fitsWord v
  | .setup | .encrypt | .hash | .wait | .ack => true
  | .ldcost c => fitsWord c
  | .ldsalt s0 s1 s2 s3 => fitsWord s0 && fitsWord s1 && fitsWord s2 && fitsWord s3
  | .ldkey _ => true
  | .ldkeyraw n k => fitsWord n && decide (k.length = 18) && k.all fitsWord

end Sys2Proof
end

