-- ==== Sys2Proof/Machine/HostNotation.lean ====
section
/-!
DEFINITION. The assembler of the host language: from statements to bus transactions.

R108 to R110 of spec/30_encoding.md, and the host's key preparation, R171 of
spec/41_key_expansion.md.
-/

namespace Sys2Proof.Machine

/-- The offset a register operand stands for (R21, R108). -/
def refOffset : RegRef → Nat
  | .id => 0x000
  | .cmd => 0x004
  | .status => 0x008
  | .ctrl => 0x00C
  | .cost => 0x010
  | .klen => 0x014
  | .salt w => 0x020 + 4 * w
  | .key w => 0x040 + 4 * w
  | .ctext w => 0x0A0 + 4 * w
  | .hash w => 0x0C0 + 4 * w
  | .pswin n => 0x1000 + 4 * n
  | .raw off => off

/-- `wr REG, v` (R108). -/
def wrOp (p : Platform) (r : RegRef) (v : Word) : HostOp :=
  .write (windowBase p + refOffset r) 4 v

/-- `rd REG` and `rd REG, =v` (R108). -/
def rdOp (p : Platform) (r : RegRef) (expect : Option Word) : HostOp :=
  .read (windowBase p + refOffset r) 4 expect

/-- `poll REG, m, v` (R108). -/
def pollOp (p : Platform) (r : RegRef) (m v : Word) : HostOp :=
  .poll (windowBase p + refOffset r) m v

/-- The key bytes `ldkey` loads: the text, a NUL, cut to 72 bytes (R109, R171). -/
def keyBytes (text : List Byte) : List Byte := (text ++ [0]).take 72

/-- The key bytes for a password: by the C convention it ends before its first NUL (R171). -/
def passwordKeyBytes (p : List Byte) : List Byte := keyBytes (p.takeWhile (· != 0))

/-- Word `w` of the key buffer for key bytes `b`, bytes past the end taken as 0 (R109). -/
def keyBufferWord (b : List Byte) (w : Nat) : Word :=
  packWord (b.getD (4 * w) 0) (b.getD (4 * w + 1) 0) (b.getD (4 * w + 2) 0) (b.getD (4 * w + 3) 0)

/-- The transactions of a statement: the core forms of R108 and the exact expansions of R109. -/
def stmtOps (p : Platform) : HostStmt → List HostOp
  | .wr r v => [wrOp p r (BitVec.ofNat 32 v)]
  | .rd r => [rdOp p r none]
  | .rdEq r v => [rdOp p r (some (BitVec.ofNat 32 v))]
  | .poll r m v => [pollOp p r (BitVec.ofNat 32 m) (BitVec.ofNat 32 v)]
  | .setup => [wrOp p .cmd 0x00000001]
  | .encrypt => [wrOp p .cmd 0x00000002]
  | .hash => [wrOp p .cmd 0x00000003]
  | .wait => [pollOp p .status 0x00000002 0x00000002]
  | .ack => [wrOp p .status 0x00000012]
  | .ldcost c => [wrOp p .cost (BitVec.ofNat 32 c)]
  | .ldsalt s0 s1 s2 s3 =>
    [wrOp p (.salt 0) (BitVec.ofNat 32 s0), wrOp p (.salt 1) (BitVec.ofNat 32 s1),
      wrOp p (.salt 2) (BitVec.ofNat 32 s2), wrOp p (.salt 3) (BitVec.ofNat 32 s3)]
  | .ldkey text =>
    ((List.range 18).map fun w => wrOp p (.key w) (keyBufferWord (keyBytes text) w)) ++
      [wrOp p .klen (BitVec.ofNat 32 (keyBytes text).length)]
  | .ldkeyraw n k =>
    ((List.range 18).map fun w => wrOp p (.key w) (BitVec.ofNat 32 (k.getD w 0))) ++
      [wrOp p .klen (BitVec.ofNat 32 n)]

/-- The assembler: the transactions of a program, or nothing when R110 refuses a statement of it. -/
def assemble (p : Platform) (prog : List HostStmt) : Option (List HostOp) :=
  if prog.all HostStmt.wf then some (prog.flatMap (stmtOps p)) else none

/-- The transactions of host software `who`. -/
def issue (who : Nat) (ops : List HostOp) : List Transaction := ops.map fun op => ⟨who, op⟩

/-- A state with an assembled program of host software `who` as the host's program
(notes/assumptions/5). -/
def State.load (who : Nat) (prog : List HostStmt) (s : State) : Option State :=
  (assemble s.platform prog).map fun ops => { s with program := issue who ops }

/-- The transcript meets every assertion `rd REG, =v` of the program (R108). -/
def State.assertionsHold (s : State) : Bool :=
  s.transcript.all fun e => match e.expect with
    | some v => e.reply == .data v
    | none => true

end Sys2Proof.Machine
end

