-- ==== Sys2Proof/Safety.lean ====
section
/-!
DEFINITION. The terms in which claims about runs are made: the invariant of reachable states, what a
command leaves, when a host program cannot fault, and two states no host can tell apart.
-/

namespace Sys2Proof.Machine

/-- `k` steps, stopping at the first fault or refusal. -/
def runSteps : Nat → State → Host.Outcome State Fault Refusal
  | 0, s => .next s
  | k + 1, s =>
    match step s with
    | .next t => runSteps k t
    | stop => stop

/-- What holds in every state a run reaches. -/
structure State.Inv (s : State) : Prop where
  /-- `CUR_OP = none` exactly when BUSY = 0 (R43). -/
  idle_iff : s.curOp = none ↔ s.busy = false
  /-- The reserved error codes 5 to 15 are never produced (R261). -/
  errcode_produced : s.errcode.toNat ≤ 4
  /-- While a command runs, DONE = 0 and ERRCODE = 0 (R232, R241). -/
  busy_clear : s.busy = true → s.done = false ∧ s.errcode = 0
  /-- While SETUP or HASH runs the state is not valid, and its operands are legal (R232, R266). -/
  key_schedule : s.curOp = some .setup ∨ s.curOp = some .hash →
    s.sv = false ∧ operandCheck s = none
  /-- While ENCRYPT runs the state is valid (R204). -/
  encrypt_valid : s.curOp = some .encrypt → s.sv = true

/-- What a command leaves: P and S, HASH0..5 and SV. -/
structure Result where
  bf   : Blowfish
  hash : Vector Word 6
  sv   : Bool
  deriving DecidableEq, Repr

/-- What a state holds where a command leaves its result. -/
def State.result (s : State) : Result := { bf := s.bf, hash := s.hash, sv := s.sv }

/-- What command `i` leaves, from the operands as they stand in `s` (R167, R204, R205). -/
def expectedResult (i : Instr) (s : State) : Result :=
  match i with
  | .setup =>
    { bf := eksSetup s.cost.toNat s.klen.toNat s.key s.salt, hash := s.hash, sv := true }
  | .encrypt => { bf := s.bf, hash := encrypt64 s.bf s.ctext, sv := s.sv }
  | .hash =>
    { bf := eksSetup s.cost.toNat s.klen.toNat s.key s.salt
      hash := bcryptChecksum s.cost.toNat s.klen.toNat s.key s.salt
      sv := true }

/-- The condition under which a command starts (R266). -/
def startsIn (i : Instr) (s : State) : Prop :=
  match i with
  | .setup | .hash => 4 ≤ s.cost.toNat ∧ 1 ≤ s.klen.toNat ∧ s.klen.toNat ≤ 72
  | .encrypt => s.sv = true

/-- `out` is what an expansion leaves of `bf` (R162, R163): the stream is exclusive-ored into P, and then
one chain of 521 blocks runs from the zero block, each block the last one mixed by `mix` and enciphered
under the state that the writes before it left.  Blocks 1 to 9 are written to the pairs of P and the
rest to the pairs of S, and these are the words of `out`. -/
def IsExpansion (mix : Nat → Block → Block) (stream : Nat → Word) (bf out : Blowfish) : Prop :=
  ∃ (st : Nat → Blowfish) (x : Nat → Block),
    st 0 = xorKeyIntoP stream bf ∧ x 0 = (0, 0) ∧
    (∀ k < 521, x (k + 1) = (st k).encipher (mix k (x k))) ∧
    (∀ i : Fin 9, st (i + 1) =
      ((st i).setP ⟨2 * i, by omega⟩ (x (i + 1)).1).setP ⟨2 * i + 1, by omega⟩ (x (i + 1)).2) ∧
    (∀ (b : Fin 4) (i : Fin 128), st (9 + 128 * b + i + 1) =
      ((st (9 + 128 * b + i)).setS b ⟨2 * i, by omega⟩ (x (9 + 128 * b + i + 1)).1).setS
        b ⟨2 * i + 1, by omega⟩ (x (9 + 128 * b + i + 1)).2) ∧
    out = st 521 ∧
    (∀ i : Fin 9, out.pWord ⟨2 * i, by omega⟩ = (x (i + 1)).1 ∧
      out.pWord ⟨2 * i + 1, by omega⟩ = (x (i + 1)).2) ∧
    ∀ (b : Fin 4) (i : Fin 128),
      out.sWord b ⟨2 * i, by omega⟩ = (x (9 + 128 * b + i + 1)).1 ∧
      out.sWord b ⟨2 * i + 1, by omega⟩ = (x (9 + 128 * b + i + 1)).2

/-- The reset values of R47 that a host or a command can see. -/
def ResetValues (s : State) : Prop :=
  s.regWord (some .id) = 0x42435259 ∧ s.regWord (some .status) = 0x00000000 ∧
  s.regWord (some .ctrl) = 0x00000000 ∧ s.regWord (some .cost) = 0 ∧ s.regWord (some .klen) = 0 ∧
  (∀ w, s.regWord (some (.salt w)) = 0x00000000) ∧
  (∀ w, s.regWord (some (.key w)) = 0x00000000) ∧
  s.ctext = #v[0x4F727068, 0x65616E42, 0x65686F6C, 0x64657253, 0x63727944, 0x6F756274] ∧
  (∀ w, s.regWord (some (.hash w)) = 0x00000000) ∧
  (∀ n, s.readsFree (some (.pswin n)) = true) ∧ s.curOp = none ∧ s.irq = false

/-- The registers a write cannot change while a command runs (R28, R230). -/
def busyLocked : Reg → Bool
  | .cmd | .cost | .klen | .salt _ | .key _ | .ctext _ => true
  | .id | .status | .ctrl | .hash _ | .pswin _ => false

/-- The next transaction of the host is an accepted 32-bit write of `v` to register `r`. -/
def State.headWrite (s : State) (r : Reg) (v : Word) : Prop :=
  ∃ who addr bytes rest, s.program = ⟨who, .write addr bytes v⟩ :: rest ∧
    route s.platform who addr bytes = .accepted (some r)

/-- The address and the width in bytes of a transaction. -/
def opTarget : HostOp → Nat × Nat
  | .write addr bytes _ => (addr, bytes)
  | .read addr bytes _ => (addr, bytes)
  | .poll addr _ _ => (addr, 4)

/-- The transaction is refused: by the block (R65), by the bus outside the window (R110), or by the
access policy (R274). -/
def opRefused (p : Platform) (tx : Transaction) : Bool :=
  match route p tx.issuer (opTarget tx.op).1 (opTarget tx.op).2 with
  | .accepted _ => false
  | .refused | .unclaimed => true

/-- No transaction of the host program can fault: either the platform does not make a refused access
a fault, or the program holds none (R268). -/
def State.noBusFault (s : State) : Prop :=
  s.platform.busErrorEffect = .fault → ∀ tx ∈ s.program, opRefused s.platform tx = false

/-- Two states a host cannot tell apart: they agree on everything but the hidden state, and on P and S
too where these can still be seen or used, with SV = 1 or while ENCRYPT runs (R40, R44, R290). -/
def SameView (s t : State) : Prop :=
  t = { s with bf := t.bf, hidden := t.hidden } ∧
    (s.sv = true ∨ s.curOp = some .encrypt → t.bf = s.bf)

end Sys2Proof.Machine
end

