-- ==== Sys2Proof/Certificates/Slice0/Obligations.lean ====
section
/-!
DEFINITION. The statements about the model, for the provers.

Each docstring names the rules it rests on.  Where a clause is the model's own choice, the docstring
names the log entry.
-/

open Sys2Proof Sys2Proof.Machine

/-! ### Encoding -/

/-- The three command words of R101, and the illegal words that R262 and 95_test_vectors.md §2.8
name. -/
def Obligations.CommandWordsDecode : Prop :=
  decode 0x00000001 = .ok .setup ∧ decode 0x00000002 = .ok .encrypt ∧
  decode 0x00000003 = .ok .hash ∧ decode 0x00000000 = .error .unusedOp ∧
  decode 0x00000004 = .error .unusedOp ∧ decode 0x00000011 = .error .reservedBits

/-- Decoding an encoded command gives the command back, and a word decodes to a command only if it is
that command's encoding, so each command has exactly one word (R100, R101, R103). -/
def Obligations.DecodeEncodeAgree : Prop :=
  (∀ i : Instr, i.wf = true → decode (encode i) = .ok i ∧
    decodeTableWord 32 (encode i).toNat = some i) ∧
  (∀ (w : Word) (i : Instr), decode w = .ok i → w = encode i)

/-- R103 and R262: the illegal words are all but 1, 2 and 3, and one written to CMD while BUSY = 0
ends at once with code 1 and no other effect; while BUSY = 1 the write is lost whatever the word
(R104). -/
def Obligations.IllegalWordsRaiseIllegalCmd : Prop :=
  ∀ (w : Word) (s : State),
    ((∃ i, decode w = .ok i) ↔ (w.toNat = 1 ∨ w.toNat = 2 ∨ w.toNat = 3)) ∧
    ((w.extractLsb' 4 28 ≠ 0 ∨
        (w.extractLsb' 0 4 ≠ 1 ∧ w.extractLsb' 0 4 ≠ 2 ∧ w.extractLsb' 0 4 ≠ 3)) →
      s.busy = false →
      busWrite (some .cmd) w s = .next { s with done := true, errcode := 1 }) ∧
    (s.busy = true → busWrite (some .cmd) w s = .next { s with ign := true })

/-! ### A step runs the decoded instruction -/

/-- A word placed by `withFetchWord` is written to CMD, decoded and run by the very next step, from any
state and for every row of the opcode table (R100, R104, R232; notes/assumptions/5). -/
def Obligations.StepRunsTheFetchedWord : Prop :=
  ∀ (s : State) (nbits w : Nat) (i : Instr), decodeTableWord nbits w = some i →
    step (s.withFetchWord nbits w) = exec i { s with busy := false, curOp := none }

/-- A step in which the host writes a legal command word to CMD while BUSY = 0 is the execution of
that command, and the engine's turn while BUSY = 1 is the execution of the running command; the step
around it only takes the turn off the schedule and the transaction off the program (R232, R241).  That a
run is a schedule of turns is the model's (notes/assumptions/1). -/
def Obligations.StepRunsTheDecodedInstruction : Prop :=
  (∀ (s : State) (i : Instr) (w : Word) (who addr bytes : Nat) (rest : List Transaction),
    nextTurn s = .host → s.program = ⟨who, .write addr bytes w⟩ :: rest →
    route s.platform who addr bytes = .accepted (some .cmd) → s.busy = false → decode w = .ok i →
    step s = exec i { s with program := rest, sched := s.sched.tail }) ∧
  (∀ (s : State) (i : Instr), nextTurn s = .engine → s.busy = true → s.curOp = some i →
    step s = exec i { s with sched := s.sched.tail })

/-! ### Acceptance of a command -/

/-- A command whose check passes starts: DONE and ERRCODE clear, SV clears for SETUP and HASH and is
kept by ENCRYPT, BUSY and CUR_OP are set, and nothing else changes (R232). -/
def Obligations.LegalCommandStarts : Prop :=
  ∀ (i : Instr) (s : State), s.busy = false → startsIn i s →
    exec i s = .next { s with
      done := false
      errcode := 0
      sv := if i = .encrypt then s.sv else false
      busy := true
      curOp := some i }

/-- R266 and R267: the first check that fails, in R266's order, ends the command at acceptance; its
only effects are ERRCODE and DONE, so every other piece of state is as it was, and irq follows IE. -/
def Obligations.FailedCheckEndsTheCommand : Prop :=
  (∀ (i : Instr) (s : State), i ≠ .encrypt → s.busy = false → s.cost.toNat < 4 →
    exec i s = .next { s with done := true, errcode := 2 }) ∧
  (∀ (i : Instr) (s : State), i ≠ .encrypt → s.busy = false → 4 ≤ s.cost.toNat →
    (s.klen.toNat = 0 ∨ 72 < s.klen.toNat) →
    exec i s = .next { s with done := true, errcode := 3 }) ∧
  (∀ s : State, s.busy = false → s.sv = false →
    exec .encrypt s = .next { s with done := true, errcode := 4 }) ∧
  (∀ (w : Word) (s : State), s.busy = false → (∀ i, decode w ≠ .ok i) →
    busWrite (some .cmd) w s = .next { s with done := true, errcode := 1 }) ∧
  (∀ (s : State) (e : BitVec 4), e ≠ 0 →
    ({ s with done := true, errcode := e } : State).irq = s.ie ∧
    ({ s with done := true, errcode := e } : State).err = true)

/-! ### Completion of a command -/

/-- R167: the completion of SETUP leaves the expanded state in P and S, SV = 1, BUSY = 0, CUR_OP none
and DONE = 1, and writes nothing else.  The last two fields are the hidden state of R44 and the
counter of free values (notes/assumptions/3). -/
def Obligations.SetupCompletes : Prop :=
  ∀ s : State, s.busy = true → s.curOp = some .setup →
    exec .setup s = .next { s with
      bf := eksSetup s.cost.toNat s.klen.toNat s.key s.salt
      sv := true
      busy := false
      curOp := none
      done := true
      hidden := freeHidden s.draws
      draws := s.draws + hiddenDraws }

/-- R204: the completion of ENCRYPT leaves the 64-fold encryption of CTEXT in HASH0..5, BUSY = 0,
CUR_OP none and DONE = 1, and writes nothing else (hidden state: notes/assumptions/3). -/
def Obligations.EncryptCompletes : Prop :=
  ∀ s : State, s.busy = true → s.curOp = some .encrypt →
    exec .encrypt s = .next { s with
      hash := encrypt64 s.bf s.ctext
      busy := false
      curOp := none
      done := true
      hidden := freeHidden s.draws
      draws := s.draws + hiddenDraws }

/-- R205: the completion of HASH leaves the expanded state in P and S and the bcrypt checksum of the
magic plaintext in HASH0..5, whatever CTEXT holds (hidden state: notes/assumptions/3). -/
def Obligations.HashCompletes : Prop :=
  ∀ s : State, s.busy = true → s.curOp = some .hash →
    exec .hash s = .next { s with
      bf := eksSetup s.cost.toNat s.klen.toNat s.key s.salt
      hash := encrypt64 (eksSetup s.cost.toNat s.klen.toNat s.key s.salt)
        #v[0x4F727068, 0x65616E42, 0x65686F6C, 0x64657253, 0x63727944, 0x6F756274]
      sv := true
      busy := false
      curOp := none
      done := true
      hidden := freeHidden s.draws
      draws := s.draws + hiddenDraws }

/-- R240 and R241: the engine's step is enabled exactly when BUSY = 1, and then it leaves the result
of the running command, BUSY = 0, CUR_OP none and DONE = 1, and sets no error.  That a turn of the engine
while the step is not enabled exists, and changes nothing, is the model's choice
(notes/assumptions/1). -/
def Obligations.EngineStepCompletesTheCommand : Prop :=
  (∀ s : State, s.busy = false → engineTurn s = .next s) ∧
  (∀ (s : State) (i : Instr), s.busy = true → s.curOp = some i →
    ∃ t, engineTurn s = .next t ∧ t.result = expectedResult i s ∧ t.busy = false ∧
      t.curOp = none ∧ t.done = true ∧ t.errcode = s.errcode)

/-! ### Frames -/

/-- Whatever a command does (start, end with an error, complete), it leaves CTRL, the input registers,
the platform, the program, the schedule and the transcript; SETUP leaves HASH0..5, and ENCRYPT leaves
P, S and SV.  Every register of the window but STATUS, HASH and PSWIN reads as before, HASH too after
SETUP, and PSWIN's words are those of before after ENCRYPT ("Not written" of R167, R204, R205). -/
def Obligations.CommandFrame : Prop :=
  ∀ (i : Instr) (s t : State), exec i s = .next t →
    (t.ie = s.ie ∧ t.cost = s.cost ∧ t.klen = s.klen ∧ t.salt = s.salt ∧ t.key = s.key ∧
      t.ctext = s.ctext ∧ t.platform = s.platform ∧ t.program = s.program ∧ t.sched = s.sched ∧
      t.transcript = s.transcript) ∧
    (i = .setup → t.hash = s.hash) ∧
    (i = .encrypt → t.bf = s.bf ∧ t.sv = s.sv) ∧
    (∀ r : Option Reg, r ≠ some .status → (∀ w, r = some (.hash w) → i = .setup) →
      (∀ n, r = some (.pswin n) → i = .encrypt) → t.regWord r = s.regWord r)

/-- Among the flags, a command writes BUSY, DONE, SV and ERRCODE only: IGN changes under no command
that starts, fails its check or completes (R232, R241). -/
def Obligations.CommandsLeaveIgn : Prop :=
  ∀ (i : Instr) (s t : State), (s.busy = true → s.curOp = some i) → exec i s = .next t →
    t.ign = s.ign

/-! ### The register window -/

/-- R21 and R62: the address map, every offset of R21 as it stands there; each register's offset is
aligned, lies in the window and selects that register, and an aligned 32-bit access at it reaches the
register, whatever the platform and whichever admitted software issues it. -/
def Obligations.AddressMapRoundTrip : Prop :=
  (regAt 0x000 = some .id ∧ regAt 0x004 = some .cmd ∧ regAt 0x008 = some .status ∧
    regAt 0x00C = some .ctrl ∧ regAt 0x010 = some .cost ∧ regAt 0x014 = some .klen ∧
    (∀ w : Fin 4, regAt (0x020 + 4 * w) = some (.salt w)) ∧
    (∀ w : Fin 18, regAt (0x040 + 4 * w) = some (.key w)) ∧
    (∀ w : Fin 6, regAt (0x0A0 + 4 * w) = some (.ctext w)) ∧
    (∀ w : Fin 6, regAt (0x0C0 + 4 * w) = some (.hash w)) ∧
    (∀ n : Fin 1042, regAt (0x1000 + 4 * n) = some (.pswin n)) ∧
    regAt 0x02C = some (.salt 3) ∧ regAt 0x084 = some (.key 17) ∧ regAt 0x0B4 = some (.ctext 5) ∧
    regAt 0x0D4 = some (.hash 5) ∧ regAt 0x1044 = some (.pswin 17) ∧
    regAt 0x1048 = some (.pswin 18) ∧ regAt 0x2044 = some (.pswin 1041)) ∧
  ∀ r : Reg, regOffset r % 4 = 0 ∧ regOffset r < 0x4000 ∧ regAt (regOffset r) = some r ∧
    (∀ p : Platform, claim p (windowBase p + regOffset r) 4 = .accepted (some r)) ∧
    (∀ (s : State) (who : Nat) (v : Word), admits s.platform who = true →
      hostWrite who (windowBase s.platform + regOffset r) 4 v s = busWrite (some r) v s)

/-- R63: the reserved offsets are the six ranges the rule lists; a read of one returns 0, a write to
one changes nothing and does not set IGN, and neither is a bus error. -/
def Obligations.ReservedOffsetsReadZero : Prop :=
  (∀ off : Nat, off < 0x4000 → off % 4 = 0 →
    (regAt off = none ↔
      (0x018 ≤ off ∧ off ≤ 0x01C) ∨ (0x030 ≤ off ∧ off ≤ 0x03C) ∨ (0x088 ≤ off ∧ off ≤ 0x09C) ∨
      (0x0B8 ≤ off ∧ off ≤ 0x0BC) ∨ (0x0D8 ≤ off ∧ off ≤ 0xFFC) ∨
      (0x2048 ≤ off ∧ off ≤ 0x3FFC))) ∧
  (∀ (s : State) (who off : Nat) (v : Word) (e : Option Word), admits s.platform who = true →
    off < 0x4000 → off % 4 = 0 → regAt off = none →
    hostRead who (windowBase s.platform + off) 4 e s =
      .next (s.record { addr := windowBase s.platform + off, reply := .data 0, expect := e }) ∧
    hostWrite who (windowBase s.platform + off) 4 v s = .next s)

/-- R65, R110 and R268: an access that is not an aligned 32-bit access inside the window is refused, and
so is one the access policy stops (R274).  It changes no state of the block, and the host gets the error
response, a dropped access or a fault of its program, as the platform's parameter says.  The block
itself does not respond outside the window (R61).  The three values of the parameter, what the host
records, and that an access the policy stops is refused in the same way are the model's
(notes/assumptions/2 and notes/assumptions/8). -/
def Obligations.AccessesTheBlockDoesNotTake : Prop :=
  ∀ (s : State) (who addr bytes : Nat) (v : Word) (e : Option Word),
    (addr < windowBase s.platform ∨ windowBase s.platform + 0x4000 ≤ addr →
      claim s.platform addr bytes = .unclaimed) ∧
    ((bytes ≠ 4 ∨ addr % 4 ≠ 0 ∨ addr < windowBase s.platform ∨
        windowBase s.platform + 0x4000 ≤ addr ∨ admits s.platform who = false) →
      (s.platform.busErrorEffect = .fault →
        hostRead who addr bytes e s = .fault .busError ∧
        hostWrite who addr bytes v s = .fault .busError) ∧
      (s.platform.busErrorEffect = .respond →
        hostRead who addr bytes e s =
          .next (s.record { addr := addr, reply := .busError, expect := e }) ∧
        hostWrite who addr bytes v s =
          .next (s.record { addr := addr, reply := .busError, expect := none })) ∧
      (s.platform.busErrorEffect = .drop →
        hostRead who addr bytes e s =
          .next (s.record { addr := addr, reply := .data 0, expect := e }) ∧
        hostWrite who addr bytes v s = .next s))

/-- R274: every transaction that reaches the window has the same rights.  Which admitted software issues
an access makes no difference to a read or a write, at any address and width.  That software has
numbers and the policy is a list of those it stops is the model's (notes/assumptions/8). -/
def Obligations.AdmittedSoftwareHasTheSameRights : Prop :=
  ∀ (s : State) (who who' addr bytes : Nat) (v : Word) (e : Option Word),
    admits s.platform who = true → admits s.platform who' = true →
    hostRead who addr bytes e s = hostRead who' addr bytes e s ∧
    hostWrite who addr bytes v s = hostWrite who' addr bytes v s

/-- R72 and R74: the block takes transactions in the order it receives them.  Where the platform keeps
their order, a turn of the interconnect changes nothing but the schedule; elsewhere it changes only
the order of the pending transactions, adding and dropping none.  The turn itself is the model's
(notes/assumptions/8). -/
def Obligations.OvertakingOnlyReordersTheProgram : Prop :=
  ∀ (s : State) (k : Nat), nextTurn s = .overtake k →
    (s.platform.ordered = true → step s = .next { s with sched := s.sched.tail }) ∧
    ∃ program, step s = .next { s with sched := s.sched.tail, program := program } ∧
      program.Perm s.program

/-! ### Reads -/

/-- R231: what a 32-bit read of each register returns; PSWIN is `PswinShowsTheState` and a reserved
offset is `ReservedOffsetsReadZero`. -/
def Obligations.ReadsReturnTheRegister : Prop :=
  (∀ (s : State) (who : Nat) (r : Reg) (e : Option Word), admits s.platform who = true →
    s.readsFree (some r) = false →
    hostRead who (windowBase s.platform + regOffset r) 4 e s =
      .next (s.record { addr := windowBase s.platform + regOffset r
                        reply := .data (s.regWord (some r)), expect := e })) ∧
  (∀ s : State,
    s.regWord (some .id) = 0x42435259 ∧ s.regWord (some .cmd) = 0x00000000 ∧
    (s.regWord (some .ctrl)).toNat = (if s.ie then 1 else 0) ∧
    (s.regWord (some .cost)).toNat = s.cost.toNat ∧
    (s.regWord (some .klen)).toNat = s.klen.toNat ∧
    (∀ w, s.regWord (some (.salt w)) = s.salt[w]) ∧
    (∀ w, s.regWord (some (.key w)) = s.key[w]) ∧
    (∀ w, s.regWord (some (.ctext w)) = s.ctext[w]) ∧
    (∀ w, s.regWord (some (.hash w)) = s.hash[w])) ∧
  (∀ (s : State) (r : Reg), s.readsFree (some r) = true ↔
    (∃ n, r = .pswin n) ∧ (s.busy = true ∨ s.sv = false))

/-- R40 and R238: a bus read of PSWIN[n] answers P[n] or S[(n - 18) div 256][(n - 18) mod 256] while
BUSY = 0 and SV = 1, and otherwise a free value.  That the free values of a run are numbered, that
each such read takes the next one, so that two reads take two, and the counter itself, are the model's
form of draw() (notes/assumptions/3). -/
def Obligations.PswinShowsTheState : Prop :=
  ∀ (s : State) (who : Nat) (n : Fin 1042) (e : Option Word), admits s.platform who = true →
    (s.busy = false → s.sv = true →
      (∀ h : n.val ≤ 17,
        hostRead who (windowBase s.platform + (0x1000 + 4 * n)) 4 e s =
          .next (s.record { addr := windowBase s.platform + (0x1000 + 4 * n)
                            reply := .data (s.bf.p[n.val]'(by omega)), expect := e })) ∧
      (∀ h : 18 ≤ n.val,
        hostRead who (windowBase s.platform + (0x1000 + 4 * n)) 4 e s =
          .next (s.record
            { addr := windowBase s.platform + (0x1000 + 4 * n)
              reply := .data ((s.bf.s[(n.val - 18) / 256]'(by omega))[(n.val - 18) % 256]'(by omega))
              expect := e }))) ∧
    (s.busy = true ∨ s.sv = false →
      hostRead who (windowBase s.platform + (0x1000 + 4 * n)) 4 e s =
        .next (State.record { addr := windowBase s.platform + (0x1000 + 4 * n)
                              reply := .data (Config.draw s.draws), expect := e }
          { s with draws := s.draws + 1 }))

/-- R69: a read changes no state of the block.  Only the host's transcript and the counter of free
values move, so every register reads after it as before (notes/assumptions/3). -/
def Obligations.ReadsHaveNoSideEffect : Prop :=
  ∀ (s t : State) (who addr bytes : Nat) (e : Option Word), hostRead who addr bytes e s = .next t →
    (∃ n entry, t = { s with draws := n, transcript := entry :: s.transcript }) ∧
    ∀ r, t.regWord r = s.regWord r ∧ t.readsFree r = s.readsFree r

/-- R30 and R26: the bits of a read of STATUS, and that a write to STATUS is decided by its bits 1 and
4 alone, so writes to reserved bits are ignored. -/
def Obligations.StatusWordLayout : Prop :=
  (∀ s : State,
    (s.regWord (some .status)).getLsbD 0 = s.busy ∧
    (s.regWord (some .status)).getLsbD 1 = s.done ∧
    ((s.regWord (some .status)).getLsbD 2 = true ↔ s.errcode ≠ 0) ∧
    (s.regWord (some .status)).getLsbD 3 = s.sv ∧
    (s.regWord (some .status)).getLsbD 4 = s.ign ∧
    (s.regWord (some .status)).extractLsb' 5 3 = 0 ∧
    (s.regWord (some .status)).extractLsb' 8 4 = s.errcode ∧
    (s.regWord (some .status)).extractLsb' 12 20 = 0) ∧
  (∀ (s : State) (v v' : Word), v.getLsbD 1 = v'.getLsbD 1 → v.getLsbD 4 = v'.getLsbD 4 →
    busWrite (some .status) v s = busWrite (some .status) v' s)

/-! ### Writes -/

/-- R233: a write to STATUS, in every state: bit 1 clears DONE, bit 4 clears IGN, and nothing else
changes. -/
def Obligations.StatusWriteClears : Prop :=
  ∀ (s : State) (v : Word),
    busWrite (some .status) v s = .next { s with
      done := if v.getLsbD 1 then false else s.done
      ign := if v.getLsbD 4 then false else s.ign }

/-- R234 and R270: a write to CTRL, in every state, sets IE and nothing else, and the interrupt output
follows at once. -/
def Obligations.CtrlWriteSetsIe : Prop :=
  ∀ (s : State) (v : Word), ∃ t, busWrite (some .ctrl) v s = .next t ∧
    t = { s with ie := v.getLsbD 0 } ∧ t.irq = (s.done && v.getLsbD 0)

/-- R235: a write to an input register while BUSY = 0 stores the field and changes nothing else; while
BUSY = 1 it only sets IGN. -/
def Obligations.InputWrites : Prop :=
  (∀ (s : State) (v : Word), s.busy = false →
    busWrite (some .cost) v s = .next { s with cost := v.extractLsb' 0 5 } ∧
    busWrite (some .klen) v s = .next { s with klen := v.extractLsb' 0 7 } ∧
    (∀ w, busWrite (some (.salt w)) v s = .next { s with salt := s.salt.set w v }) ∧
    (∀ w, busWrite (some (.key w)) v s = .next { s with key := s.key.set w v }) ∧
    (∀ w, busWrite (some (.ctext w)) v s = .next { s with ctext := s.ctext.set w v })) ∧
  (∀ (s : State) (v : Word) (r : Reg), s.busy = true → busyLocked r = true →
    busWrite (some r) v s = .next { s with ign := true })

/-- R236: writes to ID, HASHn, PSWIN[n] and reserved offsets have no effect, in every state. -/
def Obligations.ReadOnlyWritesAreIgnored : Prop :=
  ∀ (s : State) (v : Word),
    busWrite (some .id) v s = .next s ∧ (∀ w, busWrite (some (.hash w)) v s = .next s) ∧
    (∀ n, busWrite (some (.pswin n)) v s = .next s) ∧ busWrite none v s = .next s

/-- R72 with the masks of R31 to R36: after an accepted write to a register other than CMD and STATUS
while BUSY = 0, the register reads as the bits it keeps, and every other register reads as before. -/
def Obligations.ReadAfterWrite : Prop :=
  ∀ (s t : State) (r : Reg) (v : Word), s.busy = false → r ≠ .cmd → r ≠ .status →
    busWrite (some r) v s = .next t →
    (∀ r' : Option Reg, r' ≠ some r → t.regWord r' = s.regWord r') ∧
    t.regWord (some r) =
      (match r with
        | .ctrl => v &&& 0x00000001
        | .cost => v &&& 0x0000001F
        | .klen => v &&& 0x0000007F
        | .salt _ | .key _ | .ctext _ => v
        | .id | .cmd | .status | .hash _ | .pswin _ => s.regWord (some r))

/-! ### Whole-machine rules -/

/-- R28: IGN rises only in a step whose host transaction is a write to a busy-locked register while
BUSY = 1, and such a write does set it; it falls only by a write of 1 to STATUS[4] and by reset. -/
def Obligations.IgnIsSticky : Prop :=
  ∀ s t : State, step s = .next t →
    (s.ign = false → t.ign = true →
      s.busy = true ∧ ∃ r v, busyLocked r = true ∧ s.headWrite r v) ∧
    (s.busy = true → (nextTurn s = .host ∨ nextTurn s = .sameCycle) →
      ∀ r v, busyLocked r = true → s.headWrite r v → t.ign = true) ∧
    (s.ign = true → t.ign = false →
      nextTurn s = .rst ∨ ∃ v : Word, v.getLsbD 4 = true ∧ s.headWrite .status v)

/-- R25 and R269: DONE rises only in a step that ends a command, by a completion or by an error end,
and falls only by a write of 1 to STATUS[1], by the acceptance of a command, and by reset. -/
def Obligations.DoneMarksCommandEnds : Prop :=
  ∀ s t : State, step s = .next t →
    (s.done = false → t.done = true →
      (s.busy = true ∧ t.busy = false) ∨
      (s.busy = false ∧ t.errcode ≠ 0 ∧ ∃ w, s.headWrite .cmd w)) ∧
    (s.done = true → t.done = false →
      nextTurn s = .rst ∨ (∃ v : Word, v.getLsbD 1 = true ∧ s.headWrite .status v) ∨
      (s.busy = false ∧ t.busy = true ∧ ∃ w, s.headWrite .cmd w))

/-- R27: SV rises only at the completion of SETUP or HASH, and falls only when one of them is accepted
without error, and by reset. -/
def Obligations.SvMarksAValidState : Prop :=
  ∀ s t : State, step s = .next t →
    (s.sv = false → t.sv = true →
      s.busy = true ∧ t.busy = false ∧ (s.curOp = some .setup ∨ s.curOp = some .hash)) ∧
    (s.sv = true → t.sv = false →
      nextTurn s = .rst ∨
      (s.busy = false ∧ t.busy = true ∧ (t.curOp = some .setup ∨ t.curOp = some .hash)))

/-- R38 and R39: only the engine writes P and S, and only at the completion of SETUP or HASH, with the
expanded state; reset leaves them unspecified. -/
def Obligations.OnlySetupAndHashWriteBlowfish : Prop :=
  ∀ s t : State, step s = .next t →
    t.bf = s.bf ∨ nextTurn s = .rst ∨
    (s.busy = true ∧ t.busy = false ∧ (s.curOp = some .setup ∨ s.curOp = some .hash) ∧
      t.bf = eksSetup s.cost.toNat s.klen.toNat s.key s.salt)

/-- R37: HASH0..5 are written only at the completion of ENCRYPT or HASH, all together, and by reset. -/
def Obligations.ChecksumIsWrittenAtCompletion : Prop :=
  ∀ s t : State, step s = .next t →
    t.hash = s.hash ∨ nextTurn s = .rst ∨
    (s.busy = true ∧ t.busy = false ∧ s.curOp = some .encrypt ∧
      t.hash = encrypt64 s.bf s.ctext) ∨
    (s.busy = true ∧ t.busy = false ∧ s.curOp = some .hash ∧
      t.hash = bcryptChecksum s.cost.toNat s.klen.toNat s.key s.salt)

/-- R73 and R294: while a command runs, no step but a reset changes an input register, so the engine
sees at completion the operands of its acceptance. -/
def Obligations.OperandsAreStableWhileBusy : Prop :=
  ∀ s t : State, step s = .next t → s.busy = true → nextTurn s ≠ .rst →
    t.cost = s.cost ∧ t.klen = s.klen ∧ t.salt = s.salt ∧ t.key = s.key ∧ t.ctext = s.ctext

/-- R240 to R243 and U16: a running command always completes.  The spec gives no bound; the bound, and the
completion once the schedule is empty, are the model's choice (notes/assumptions/1).  From any state in which one runs and no
reset is scheduled, on a program that cannot fault, a run of at most one step more than the schedule
is long reaches a state in which the command has ended with the result its operands had when the run
began, however the host's transactions interleave with it. -/
def Obligations.RunningCommandCompletes : Prop :=
  ∀ (s : State) (i : Instr), s.busy = true → s.curOp = some i → Turn.rst ∉ s.sched →
    s.noBusFault →
    ∃ k t, k ≤ s.sched.length + 1 ∧ runSteps k s = .next t ∧ t.busy = false ∧ t.curOp = none ∧
      t.done = true ∧ t.result = expectedResult i s

/-- R242: a host transaction and a completion in one clock cycle match an interleaving; a W1C write of
DONE leaves DONE = 1, and a busy-locked write is lost and sets IGN.  R242 fixes the order for these two
kinds of write only; that every other transaction, a read or a CTRL write, is ordered before the
completion too is the model's choice (notes/assumptions/7). -/
def Obligations.SameCycleIsAnInterleaving : Prop :=
  ∀ (s : State) (q : List Turn), s.busy = true →
    step { s with sched := .sameCycle :: q } =
      runSteps 2 { s with sched := .host :: .engine :: q } ∧
    (∀ v : Word, s.headWrite .status v →
      ∃ t, step { s with sched := .sameCycle :: q } = .next t ∧ t.done = true) ∧
    (∀ (r : Reg) (v : Word), busyLocked r = true → s.headWrite r v →
      ∃ t, step { s with sched := .sameCycle :: q } = .next t ∧ t.ign = true ∧ t.busy = false ∧
        t.cost = s.cost ∧ t.klen = s.klen ∧ t.salt = s.salt ∧ t.key = s.key ∧ t.ctext = s.ctext)

/-- R260 and R268: nothing stops the block.  A step is never refused; it faults only where the platform
makes a refused access a fault of the host program and the program's next transaction is refused (R65,
R110, R274); and a program without such an access runs on.  The values of the parameter, that the
platform's parameters are data that no step changes, and that an access the policy stops counts as
refused are the model's (notes/assumptions/2 and notes/assumptions/8). -/
def Obligations.OnlyABusErrorStops : Prop :=
  ∀ s : State,
    (∀ r, step s ≠ .refused r) ∧
    (∀ f, step s = .fault f → s.platform.busErrorEffect = .fault ∧
      ∃ tx rest, s.program = tx :: rest ∧ opRefused s.platform tx = true) ∧
    (s.noBusFault → ∃ t, step s = .next t ∧ t.noBusFault ∧ t.platform = s.platform)

/-- The invariant of `State.Inv` (R43, R261, R232, R204) holds at reset. -/
def Obligations.InvariantAtReset : Prop := State.reset.Inv

/-- Every step keeps the invariant: CUR_OP is none exactly when BUSY = 0, the reserved error codes are
never produced, DONE and ERRCODE are 0 while a command runs, the operands of a running SETUP or HASH
are legal and SV is 0, and SV is 1 while ENCRYPT runs (R43, R261, R232, R241, R204). -/
def Obligations.InvariantKept : Prop :=
  ∀ s t : State, s.Inv → step s = .next t → t.Inv

/-- R290, R40 and R44: the hidden state, and P and S while SV = 0, reach no host and no command.  Two
states that agree on everything else take the same steps to two states that agree again, with the
same transcript; once SV = 1, P and S agree too. -/
def Obligations.UnspecifiedStateIsInvisible : Prop :=
  ∀ s s' t : State, SameView s s' → step s = .next t →
    ∃ t', step s' = .next t' ∧ SameView t t' ∧ t'.transcript = t.transcript

/-! ### Reset -/

/-- R290, R291 and R47: a reset step is possible in every state, a running command included, and
leaves the reset values: the command is abandoned, DONE is not set, HASH is 0, and P and S are free
values.  That these are the next 1042 of the numbered free values of the run is the model's form of
draw() (notes/assumptions/3). -/
def Obligations.ResetStepGivesTheResetValues : Prop :=
  ∀ s : State, nextTurn s = .rst →
    ∃ t, step s = .next t ∧ ResetValues t ∧ t.busy = false ∧ t.done = false ∧ t.sv = false ∧
      t.ign = false ∧ t.errcode = 0 ∧ t.bf = freeBlowfish s.draws

/-- R47 and R292: the model's state after reset has the reset values, is idle, and with the interrupt
masked.  P, S and the hidden state, for which R47 gives no value, are not spoken of. -/
def Obligations.ResetStateHasTheResetValues : Prop :=
  ResetValues State.reset ∧ State.reset.busy = false ∧ State.reset.done = false ∧
    State.reset.sv = false ∧ State.reset.ign = false ∧ State.reset.errcode = 0 ∧
    State.reset.ie = false

/-! ### The algorithm -/

/-- R131 and R132: worked examples of F and Encipher under the initial state. -/
def Obligations.DatapathExamples : Prop :=
  initState.f 0x01020304 = 0x3CEDFF8C ∧ initState.f 0x00000000 = 0x2FCFF51E ∧
  initState.f 0xFFFFFFFF = 0x452C2867 ∧
  initState.encipher (0x00000000, 0x00000000) = (0x706D9FCC, 0x1792D23A)

/-- R133: Encipher is a bijection on blocks for fixed P and S, and Decipher is its inverse. -/
def Obligations.DecipherInvertsEncipher : Prop :=
  ∀ (bf : Blowfish) (x : Block),
    bf.decipher (bf.encipher x) = x ∧ bf.encipher (bf.decipher x) = x

/-- R66: byte j of each byte stream is bits [31 - 8 (j mod 4) : 24 - 8 (j mod 4)] of word j div 4. -/
def Obligations.BytesArePackedBigEndian : Prop :=
  (∀ (key : Vector Word 18) (j : Fin 72),
    keyByte key j = (key[j.val / 4]'(by omega)).extractLsb' (24 - 8 * (j.val % 4)) 8) ∧
  (∀ (salt : Vector Word 4) (j : Fin 16),
    saltByte salt j = (salt[j.val / 4]'(by omega)).extractLsb' (24 - 8 * (j.val % 4)) 8) ∧
  (∀ (hash : Vector Word 6) (j : Fin 24),
    hashByte hash j = (hash[j.val / 4]'(by omega)).extractLsb' (24 - 8 * (j.val % 4)) 8) ∧
  (∀ (ctext : Vector Word 6) (j : Fin 24),
    ctextByte ctext j = (ctext[j.val / 4]'(by omega)).extractLsb' (24 - 8 * (j.val % 4)) 8)

/-- R135 and R136: the salt used as a key is the key stream over the 16 salt bytes, and it is the salt
stream, which has a period of four words. -/
def Obligations.SaltKeyWordIsSaltWord : Prop :=
  ∀ (salt : Vector Word 4) (i : Nat),
    saltKeyWord salt i = saltByte salt (4 * i % 16) ++ saltByte salt ((4 * i + 1) % 16) ++
      saltByte salt ((4 * i + 2) % 16) ++ saltByte salt ((4 * i + 3) % 16) ∧
    saltKeyWord salt i = saltWord salt i ∧ saltWord salt i = salt[i % 4]'(by omega)

/-- R134: if m divides n and the n key bytes repeat with period m, the keys (n, K) and (m, K) give the
same stream, and so the same expanded state. -/
def Obligations.RepeatedKeyGivesTheSameStream : Prop :=
  ∀ (key : Vector Word 18) (m n : Nat), 1 ≤ m → m ∣ n → n ≤ 72 → 1 ≤ n →
    (∀ j < n, keyByte key j = keyByte key (j % m)) →
    (∀ i, keyWord key n i = keyWord key m i) ∧
    ∀ (c : Nat) (salt : Vector Word 4), eksSetup c n key salt = eksSetup c m key salt

/-- R35, R164 and R205: the result of SETUP and HASH is a function of COST, KLEN, the first KLEN key
bytes and the salt: two states that agree on these get the same P and S, and the same checksum from
HASH, whatever else they hold. -/
def Obligations.ResultDependsOnTheOperandsOnly : Prop :=
  ∀ (i : Instr) (s s' t t' : State), i ≠ .encrypt → s.busy = true → s'.busy = true →
    s.curOp = some i → s'.curOp = some i → s.cost = s'.cost → s.klen = s'.klen →
    1 ≤ s.klen.toNat → s.salt = s'.salt →
    (∀ j < s.klen.toNat, keyByte s.key j = keyByte s'.key j) →
    exec i s = .next t → exec i s' = .next t' →
    t.bf = t'.bf ∧ (i = .hash → t.hash = t'.hash)

/-- R160 and R70: InitState loads the ROM, P from ROM[0..17] and S-box b from
ROM[18 + 256 b .. 18 + 256 b + 255], with the anchor words of R70. -/
def Obligations.InitStateLoadsTheRom : Prop :=
  (∀ i : Fin 18, initState.pWord i = rom i) ∧
  (∀ (b : Fin 4) (i : Fin 256), initState.sWord b i = rom (18 + 256 * b.val + i.val)) ∧
  rom 0 = 0x243F6A88 ∧ rom 17 = 0x8979FB1B ∧ rom 18 = 0xD1310BA6 ∧ rom 1041 = 0x3AC372E6

/-- R161: XorKeyIntoP changes word i of P by word i of the stream and no word of S. -/
def Obligations.KeyIsXoredIntoP : Prop :=
  ∀ (stream : Nat → Word) (bf : Blowfish),
    (xorKeyIntoP stream bf).s = bf.s ∧
    ∀ i : Fin 18, (xorKeyIntoP stream bf).p[i] = bf.p[i] ^^^ stream i.val

/-- R164 and R165: EksSetup is InitState, one salted expansion, and 2^c iterations of the key's unsalted
expansion and then the salt's, the state being kept from one to the next.  At cost 0, which no command
reaches, there is one iteration after the salted expansion of the initial state; one more unit of cost
doubles the iterations. -/
def Obligations.CostDoublesTheIterations : Prop :=
  ∀ (n : Nat) (key : Vector Word 18) (salt : Vector Word 4),
    eksSetup 0 n key salt =
      expand0State (saltKeyWord salt)
        (expand0State (keyWord key n) (expandState (keyWord key n) salt initState)) ∧
    ∀ c : Nat, eksSetup (c + 1) n key salt =
      iterate (fun bf => expand0State (saltKeyWord salt) (expand0State (keyWord key n) bf))
        (2 ^ c) (eksSetup c n key salt)

/-- R164, R165 and R166: EksSetup runs 1 + 2 * 2^c expansions, one after the other on the state the last
one left: the salted one from InitState, and then by turns the unsalted one with the key and with the
salt as key.  The totals are R166's, 521 Encipher calls for each. -/
def Obligations.EksSetupRunsTheExpansions : Prop :=
  (∀ (c n : Nat) (key : Vector Word 18) (salt : Vector Word 4), ∃ st : Nat → Blowfish,
    st 0 = initState ∧ st 1 = expandState (keyWord key n) salt (st 0) ∧
    (∀ t < 2 ^ c,
      st (2 * t + 2) = expand0State (keyWord key n) (st (2 * t + 1)) ∧
      st (2 * t + 3) = expand0State (saltKeyWord salt) (st (2 * t + 2))) ∧
    eksSetup c n key salt = st (1 + 2 * 2 ^ c) ∧ setupEnciphers c = 521 * (1 + 2 * 2 ^ c)) ∧
  setupEnciphers 4 = 17193 ∧ setupEnciphers 5 = 33865 ∧ setupEnciphers 10 = 1067529 ∧
  setupEnciphers 31 = 2237677961737

/-- R162, R163 and R166: an expansion is one chain of 521 Encipher calls, 9 for P and 512 for S.  Block
`k` of the chain is enciphered under the state as the writes of the blocks before it left it; the salted
expansion first exclusive-ors SaltWord(2k) and SaltWord(2k + 1) into the chained value, the index
running on from P into S, where it is 18, SALT2 and SALT3.  Each result is the next pair of P words,
then of S words, and is what the expansion leaves there. -/
def Obligations.ExpansionEnciphers521Blocks : Prop :=
  (∀ (stream : Nat → Word) (salt : Vector Word 4) (bf : Blowfish),
    IsExpansion (fun k y => (y.1 ^^^ saltWord salt (2 * k), y.2 ^^^ saltWord salt (2 * k + 1)))
      stream bf (expandState stream salt bf)) ∧
  (∀ (stream : Nat → Word) (bf : Blowfish),
    IsExpansion (fun _ y => y) stream bf (expand0State stream bf)) ∧
  (∀ salt : Vector Word 4, saltWord salt (2 * 9) = salt[2] ∧ saltWord salt (2 * 9 + 1) = salt[3]) ∧
  enciphersPerExpansion = 521

/-- R201: no value passes from one block to another, so Encrypt64 is 64 applications of Encipher to
each of the three blocks on its own, and equal blocks stay equal. -/
def Obligations.FinalisationIsEcb : Prop :=
  ∀ (bf : Blowfish) (c : Vector Word 6) (k : Fin 3),
    blockOf (encrypt64 bf c) k = iterate bf.encipher 64 (blockOf c k)

/-- R204 (a) and (b): after an ENCRYPT, the host loads CTEXT with the checksum and encrypts again.  The
second ENCRYPT starts and completes, uses the same P and S, and leaves Encipher^128 of each block. -/
def Obligations.EncryptTwiceIsEncipher128 : Prop :=
  ∀ s : State, s.busy = true → s.curOp = some .encrypt → s.sv = true →
    ∃ t u v, exec .encrypt s = .next t ∧ exec .encrypt { t with ctext := t.hash } = .next u ∧
      exec .encrypt u = .next v ∧ v.bf = s.bf ∧
      ∀ k, blockOf v.hash k = iterate s.bf.encipher 128 (blockOf s.ctext k)

/-- R204 (c): with the magic plaintext in CTEXT, SETUP and then ENCRYPT give the checksum and the
expanded state that HASH gives from the same operands. -/
def Obligations.SetupThenEncryptIsHash : Prop :=
  ∀ s : State, s.busy = false → startsIn .hash s → s.ctext = magic →
    ∃ a b c d a' b',
      exec .setup s = .next a ∧ exec .setup a = .next b ∧
      exec .encrypt b = .next c ∧ exec .encrypt c = .next d ∧
      exec .hash s = .next a' ∧ exec .hash a' = .next b' ∧
      d.result = b'.result ∧ d.errcode = 0 ∧ b'.errcode = 0

/-! ### The host's program -/

/-- R108: a `poll` reads its register and stays at the head of the program until the value matches
under the mask; each value read goes to the transcript. -/
def Obligations.PollRepeatsUntilItMatches : Prop :=
  ∀ (s : State) (who : Nat) (r : Reg) (m v : Word) (rest : List Transaction),
    admits s.platform who = true → s.readsFree (some r) = false →
    s.program = ⟨who, .poll (windowBase s.platform + regOffset r) m v⟩ :: rest →
    ∃ t, hostTurn s = .next t ∧
      t.transcript = { addr := windowBase s.platform + regOffset r
                       reply := .data (s.regWord (some r)), expect := none } :: s.transcript ∧
      t.program = (if s.regWord (some r) &&& m = v then rest else s.program)

/-- R109 and R171: from an idle engine, the nineteen transactions of `ldkey` leave the text, a NUL and
the cap at 72 bytes in the key buffer and KLEN. -/
def Obligations.LdkeyLoadsTheKey : Prop :=
  ∀ (s : State) (who : Nat) (text : List Byte) (rest : List Transaction),
    admits s.platform who = true → s.busy = false → s.sched = [] →
    s.program = issue who (stmtOps s.platform (.ldkey text)) ++ rest →
    ∃ t, runSteps 19 s = .next t ∧ t.program = rest ∧ t.busy = false ∧
      t.klen.toNat = min (text.length + 1) 72 ∧
      ∀ j < t.klen.toNat, keyByte t.key j = (text ++ [0]).getD j 0
end

