-- ==== Sys2Proof/Laws/State.lean ====
section
/-!
SUPPORT. What each named update of the state does to each field, one simplification lemma per update
and field, so that no later proof unfolds a record update.
-/

namespace Sys2Proof.Machine

/-! ### State.ignoreWrite -/

@[simp] theorem State.ignoreWrite_busy (s : State) : s.ignoreWrite.busy = s.busy := rfl
@[simp] theorem State.ignoreWrite_done (s : State) : s.ignoreWrite.done = s.done := rfl
@[simp] theorem State.ignoreWrite_sv (s : State) : s.ignoreWrite.sv = s.sv := rfl
@[simp] theorem State.ignoreWrite_ign (s : State) : s.ignoreWrite.ign = true := rfl
@[simp] theorem State.ignoreWrite_errcode (s : State) : s.ignoreWrite.errcode = s.errcode := rfl
@[simp] theorem State.ignoreWrite_ie (s : State) : s.ignoreWrite.ie = s.ie := rfl
@[simp] theorem State.ignoreWrite_cost (s : State) : s.ignoreWrite.cost = s.cost := rfl
@[simp] theorem State.ignoreWrite_klen (s : State) : s.ignoreWrite.klen = s.klen := rfl
@[simp] theorem State.ignoreWrite_salt (s : State) : s.ignoreWrite.salt = s.salt := rfl
@[simp] theorem State.ignoreWrite_key (s : State) : s.ignoreWrite.key = s.key := rfl
@[simp] theorem State.ignoreWrite_ctext (s : State) : s.ignoreWrite.ctext = s.ctext := rfl
@[simp] theorem State.ignoreWrite_hash (s : State) : s.ignoreWrite.hash = s.hash := rfl
@[simp] theorem State.ignoreWrite_bf (s : State) : s.ignoreWrite.bf = s.bf := rfl
@[simp] theorem State.ignoreWrite_curOp (s : State) : s.ignoreWrite.curOp = s.curOp := rfl
@[simp] theorem State.ignoreWrite_hidden (s : State) : s.ignoreWrite.hidden = s.hidden := rfl
@[simp] theorem State.ignoreWrite_platform (s : State) : s.ignoreWrite.platform = s.platform := rfl
@[simp] theorem State.ignoreWrite_program (s : State) : s.ignoreWrite.program = s.program := rfl
@[simp] theorem State.ignoreWrite_sched (s : State) : s.ignoreWrite.sched = s.sched := rfl
@[simp] theorem State.ignoreWrite_transcript (s : State) :
    s.ignoreWrite.transcript = s.transcript := rfl
@[simp] theorem State.ignoreWrite_draws (s : State) : s.ignoreWrite.draws = s.draws := rfl

/-! ### State.setCtrl -/

@[simp] theorem State.setCtrl_busy (v : Word) (s : State) : (s.setCtrl v).busy = s.busy := rfl
@[simp] theorem State.setCtrl_done (v : Word) (s : State) : (s.setCtrl v).done = s.done := rfl
@[simp] theorem State.setCtrl_sv (v : Word) (s : State) : (s.setCtrl v).sv = s.sv := rfl
@[simp] theorem State.setCtrl_ign (v : Word) (s : State) : (s.setCtrl v).ign = s.ign := rfl
@[simp] theorem State.setCtrl_errcode (v : Word) (s : State) :
    (s.setCtrl v).errcode = s.errcode := rfl
@[simp] theorem State.setCtrl_ie (v : Word) (s : State) : (s.setCtrl v).ie = v.getLsbD 0 := rfl
@[simp] theorem State.setCtrl_cost (v : Word) (s : State) : (s.setCtrl v).cost = s.cost := rfl
@[simp] theorem State.setCtrl_klen (v : Word) (s : State) : (s.setCtrl v).klen = s.klen := rfl
@[simp] theorem State.setCtrl_salt (v : Word) (s : State) : (s.setCtrl v).salt = s.salt := rfl
@[simp] theorem State.setCtrl_key (v : Word) (s : State) : (s.setCtrl v).key = s.key := rfl
@[simp] theorem State.setCtrl_ctext (v : Word) (s : State) : (s.setCtrl v).ctext = s.ctext := rfl
@[simp] theorem State.setCtrl_hash (v : Word) (s : State) : (s.setCtrl v).hash = s.hash := rfl
@[simp] theorem State.setCtrl_bf (v : Word) (s : State) : (s.setCtrl v).bf = s.bf := rfl
@[simp] theorem State.setCtrl_curOp (v : Word) (s : State) : (s.setCtrl v).curOp = s.curOp := rfl
@[simp] theorem State.setCtrl_hidden (v : Word) (s : State) : (s.setCtrl v).hidden = s.hidden := rfl
@[simp] theorem State.setCtrl_platform (v : Word) (s : State) :
    (s.setCtrl v).platform = s.platform := rfl
@[simp] theorem State.setCtrl_program (v : Word) (s : State) :
    (s.setCtrl v).program = s.program := rfl
@[simp] theorem State.setCtrl_sched (v : Word) (s : State) : (s.setCtrl v).sched = s.sched := rfl
@[simp] theorem State.setCtrl_transcript (v : Word) (s : State) :
    (s.setCtrl v).transcript = s.transcript := rfl
@[simp] theorem State.setCtrl_draws (v : Word) (s : State) : (s.setCtrl v).draws = s.draws := rfl

/-! ### State.setCost -/

@[simp] theorem State.setCost_busy (v : Word) (s : State) : (s.setCost v).busy = s.busy := rfl
@[simp] theorem State.setCost_done (v : Word) (s : State) : (s.setCost v).done = s.done := rfl
@[simp] theorem State.setCost_sv (v : Word) (s : State) : (s.setCost v).sv = s.sv := rfl
@[simp] theorem State.setCost_ign (v : Word) (s : State) : (s.setCost v).ign = s.ign := rfl
@[simp] theorem State.setCost_errcode (v : Word) (s : State) :
    (s.setCost v).errcode = s.errcode := rfl
@[simp] theorem State.setCost_ie (v : Word) (s : State) : (s.setCost v).ie = s.ie := rfl
@[simp] theorem State.setCost_cost (v : Word) (s : State) :
    (s.setCost v).cost = v.extractLsb' 0 5 := rfl
@[simp] theorem State.setCost_klen (v : Word) (s : State) : (s.setCost v).klen = s.klen := rfl
@[simp] theorem State.setCost_salt (v : Word) (s : State) : (s.setCost v).salt = s.salt := rfl
@[simp] theorem State.setCost_key (v : Word) (s : State) : (s.setCost v).key = s.key := rfl
@[simp] theorem State.setCost_ctext (v : Word) (s : State) : (s.setCost v).ctext = s.ctext := rfl
@[simp] theorem State.setCost_hash (v : Word) (s : State) : (s.setCost v).hash = s.hash := rfl
@[simp] theorem State.setCost_bf (v : Word) (s : State) : (s.setCost v).bf = s.bf := rfl
@[simp] theorem State.setCost_curOp (v : Word) (s : State) : (s.setCost v).curOp = s.curOp := rfl
@[simp] theorem State.setCost_hidden (v : Word) (s : State) : (s.setCost v).hidden = s.hidden := rfl
@[simp] theorem State.setCost_platform (v : Word) (s : State) :
    (s.setCost v).platform = s.platform := rfl
@[simp] theorem State.setCost_program (v : Word) (s : State) :
    (s.setCost v).program = s.program := rfl
@[simp] theorem State.setCost_sched (v : Word) (s : State) : (s.setCost v).sched = s.sched := rfl
@[simp] theorem State.setCost_transcript (v : Word) (s : State) :
    (s.setCost v).transcript = s.transcript := rfl
@[simp] theorem State.setCost_draws (v : Word) (s : State) : (s.setCost v).draws = s.draws := rfl

/-! ### State.setKlen -/

@[simp] theorem State.setKlen_busy (v : Word) (s : State) : (s.setKlen v).busy = s.busy := rfl
@[simp] theorem State.setKlen_done (v : Word) (s : State) : (s.setKlen v).done = s.done := rfl
@[simp] theorem State.setKlen_sv (v : Word) (s : State) : (s.setKlen v).sv = s.sv := rfl
@[simp] theorem State.setKlen_ign (v : Word) (s : State) : (s.setKlen v).ign = s.ign := rfl
@[simp] theorem State.setKlen_errcode (v : Word) (s : State) :
    (s.setKlen v).errcode = s.errcode := rfl
@[simp] theorem State.setKlen_ie (v : Word) (s : State) : (s.setKlen v).ie = s.ie := rfl
@[simp] theorem State.setKlen_cost (v : Word) (s : State) : (s.setKlen v).cost = s.cost := rfl
@[simp] theorem State.setKlen_klen (v : Word) (s : State) :
    (s.setKlen v).klen = v.extractLsb' 0 7 := rfl
@[simp] theorem State.setKlen_salt (v : Word) (s : State) : (s.setKlen v).salt = s.salt := rfl
@[simp] theorem State.setKlen_key (v : Word) (s : State) : (s.setKlen v).key = s.key := rfl
@[simp] theorem State.setKlen_ctext (v : Word) (s : State) : (s.setKlen v).ctext = s.ctext := rfl
@[simp] theorem State.setKlen_hash (v : Word) (s : State) : (s.setKlen v).hash = s.hash := rfl
@[simp] theorem State.setKlen_bf (v : Word) (s : State) : (s.setKlen v).bf = s.bf := rfl
@[simp] theorem State.setKlen_curOp (v : Word) (s : State) : (s.setKlen v).curOp = s.curOp := rfl
@[simp] theorem State.setKlen_hidden (v : Word) (s : State) : (s.setKlen v).hidden = s.hidden := rfl
@[simp] theorem State.setKlen_platform (v : Word) (s : State) :
    (s.setKlen v).platform = s.platform := rfl
@[simp] theorem State.setKlen_program (v : Word) (s : State) :
    (s.setKlen v).program = s.program := rfl
@[simp] theorem State.setKlen_sched (v : Word) (s : State) : (s.setKlen v).sched = s.sched := rfl
@[simp] theorem State.setKlen_transcript (v : Word) (s : State) :
    (s.setKlen v).transcript = s.transcript := rfl
@[simp] theorem State.setKlen_draws (v : Word) (s : State) : (s.setKlen v).draws = s.draws := rfl

/-! ### State.setSalt -/

@[simp] theorem State.setSalt_busy (w : Fin 4) (v : Word) (s : State) :
    (s.setSalt w v).busy = s.busy := rfl
@[simp] theorem State.setSalt_done (w : Fin 4) (v : Word) (s : State) :
    (s.setSalt w v).done = s.done := rfl
@[simp] theorem State.setSalt_sv (w : Fin 4) (v : Word) (s : State) :
    (s.setSalt w v).sv = s.sv := rfl
@[simp] theorem State.setSalt_ign (w : Fin 4) (v : Word) (s : State) :
    (s.setSalt w v).ign = s.ign := rfl
@[simp] theorem State.setSalt_errcode (w : Fin 4) (v : Word) (s : State) :
    (s.setSalt w v).errcode = s.errcode := rfl
@[simp] theorem State.setSalt_ie (w : Fin 4) (v : Word) (s : State) :
    (s.setSalt w v).ie = s.ie := rfl
@[simp] theorem State.setSalt_cost (w : Fin 4) (v : Word) (s : State) :
    (s.setSalt w v).cost = s.cost := rfl
@[simp] theorem State.setSalt_klen (w : Fin 4) (v : Word) (s : State) :
    (s.setSalt w v).klen = s.klen := rfl
@[simp] theorem State.setSalt_salt (w : Fin 4) (v : Word) (s : State) :
    (s.setSalt w v).salt = s.salt.set w.val v w.isLt := rfl
@[simp] theorem State.setSalt_key (w : Fin 4) (v : Word) (s : State) :
    (s.setSalt w v).key = s.key := rfl
@[simp] theorem State.setSalt_ctext (w : Fin 4) (v : Word) (s : State) :
    (s.setSalt w v).ctext = s.ctext := rfl
@[simp] theorem State.setSalt_hash (w : Fin 4) (v : Word) (s : State) :
    (s.setSalt w v).hash = s.hash := rfl
@[simp] theorem State.setSalt_bf (w : Fin 4) (v : Word) (s : State) :
    (s.setSalt w v).bf = s.bf := rfl
@[simp] theorem State.setSalt_curOp (w : Fin 4) (v : Word) (s : State) :
    (s.setSalt w v).curOp = s.curOp := rfl
@[simp] theorem State.setSalt_hidden (w : Fin 4) (v : Word) (s : State) :
    (s.setSalt w v).hidden = s.hidden := rfl
@[simp] theorem State.setSalt_platform (w : Fin 4) (v : Word) (s : State) :
    (s.setSalt w v).platform = s.platform := rfl
@[simp] theorem State.setSalt_program (w : Fin 4) (v : Word) (s : State) :
    (s.setSalt w v).program = s.program := rfl
@[simp] theorem State.setSalt_sched (w : Fin 4) (v : Word) (s : State) :
    (s.setSalt w v).sched = s.sched := rfl
@[simp] theorem State.setSalt_transcript (w : Fin 4) (v : Word) (s : State) :
    (s.setSalt w v).transcript = s.transcript := rfl
@[simp] theorem State.setSalt_draws (w : Fin 4) (v : Word) (s : State) :
    (s.setSalt w v).draws = s.draws := rfl

/-! ### State.setKey -/

@[simp] theorem State.setKey_busy (w : Fin 18) (v : Word) (s : State) :
    (s.setKey w v).busy = s.busy := rfl
@[simp] theorem State.setKey_done (w : Fin 18) (v : Word) (s : State) :
    (s.setKey w v).done = s.done := rfl
@[simp] theorem State.setKey_sv (w : Fin 18) (v : Word) (s : State) :
    (s.setKey w v).sv = s.sv := rfl
@[simp] theorem State.setKey_ign (w : Fin 18) (v : Word) (s : State) :
    (s.setKey w v).ign = s.ign := rfl
@[simp] theorem State.setKey_errcode (w : Fin 18) (v : Word) (s : State) :
    (s.setKey w v).errcode = s.errcode := rfl
@[simp] theorem State.setKey_ie (w : Fin 18) (v : Word) (s : State) :
    (s.setKey w v).ie = s.ie := rfl
@[simp] theorem State.setKey_cost (w : Fin 18) (v : Word) (s : State) :
    (s.setKey w v).cost = s.cost := rfl
@[simp] theorem State.setKey_klen (w : Fin 18) (v : Word) (s : State) :
    (s.setKey w v).klen = s.klen := rfl
@[simp] theorem State.setKey_salt (w : Fin 18) (v : Word) (s : State) :
    (s.setKey w v).salt = s.salt := rfl
@[simp] theorem State.setKey_key (w : Fin 18) (v : Word) (s : State) :
    (s.setKey w v).key = s.key.set w.val v w.isLt := rfl
@[simp] theorem State.setKey_ctext (w : Fin 18) (v : Word) (s : State) :
    (s.setKey w v).ctext = s.ctext := rfl
@[simp] theorem State.setKey_hash (w : Fin 18) (v : Word) (s : State) :
    (s.setKey w v).hash = s.hash := rfl
@[simp] theorem State.setKey_bf (w : Fin 18) (v : Word) (s : State) :
    (s.setKey w v).bf = s.bf := rfl
@[simp] theorem State.setKey_curOp (w : Fin 18) (v : Word) (s : State) :
    (s.setKey w v).curOp = s.curOp := rfl
@[simp] theorem State.setKey_hidden (w : Fin 18) (v : Word) (s : State) :
    (s.setKey w v).hidden = s.hidden := rfl
@[simp] theorem State.setKey_platform (w : Fin 18) (v : Word) (s : State) :
    (s.setKey w v).platform = s.platform := rfl
@[simp] theorem State.setKey_program (w : Fin 18) (v : Word) (s : State) :
    (s.setKey w v).program = s.program := rfl
@[simp] theorem State.setKey_sched (w : Fin 18) (v : Word) (s : State) :
    (s.setKey w v).sched = s.sched := rfl
@[simp] theorem State.setKey_transcript (w : Fin 18) (v : Word) (s : State) :
    (s.setKey w v).transcript = s.transcript := rfl
@[simp] theorem State.setKey_draws (w : Fin 18) (v : Word) (s : State) :
    (s.setKey w v).draws = s.draws := rfl

/-! ### State.setCtext -/

@[simp] theorem State.setCtext_busy (w : Fin 6) (v : Word) (s : State) :
    (s.setCtext w v).busy = s.busy := rfl
@[simp] theorem State.setCtext_done (w : Fin 6) (v : Word) (s : State) :
    (s.setCtext w v).done = s.done := rfl
@[simp] theorem State.setCtext_sv (w : Fin 6) (v : Word) (s : State) :
    (s.setCtext w v).sv = s.sv := rfl
@[simp] theorem State.setCtext_ign (w : Fin 6) (v : Word) (s : State) :
    (s.setCtext w v).ign = s.ign := rfl
@[simp] theorem State.setCtext_errcode (w : Fin 6) (v : Word) (s : State) :
    (s.setCtext w v).errcode = s.errcode := rfl
@[simp] theorem State.setCtext_ie (w : Fin 6) (v : Word) (s : State) :
    (s.setCtext w v).ie = s.ie := rfl
@[simp] theorem State.setCtext_cost (w : Fin 6) (v : Word) (s : State) :
    (s.setCtext w v).cost = s.cost := rfl
@[simp] theorem State.setCtext_klen (w : Fin 6) (v : Word) (s : State) :
    (s.setCtext w v).klen = s.klen := rfl
@[simp] theorem State.setCtext_salt (w : Fin 6) (v : Word) (s : State) :
    (s.setCtext w v).salt = s.salt := rfl
@[simp] theorem State.setCtext_key (w : Fin 6) (v : Word) (s : State) :
    (s.setCtext w v).key = s.key := rfl
@[simp] theorem State.setCtext_ctext (w : Fin 6) (v : Word) (s : State) :
    (s.setCtext w v).ctext = s.ctext.set w.val v w.isLt := rfl
@[simp] theorem State.setCtext_hash (w : Fin 6) (v : Word) (s : State) :
    (s.setCtext w v).hash = s.hash := rfl
@[simp] theorem State.setCtext_bf (w : Fin 6) (v : Word) (s : State) :
    (s.setCtext w v).bf = s.bf := rfl
@[simp] theorem State.setCtext_curOp (w : Fin 6) (v : Word) (s : State) :
    (s.setCtext w v).curOp = s.curOp := rfl
@[simp] theorem State.setCtext_hidden (w : Fin 6) (v : Word) (s : State) :
    (s.setCtext w v).hidden = s.hidden := rfl
@[simp] theorem State.setCtext_platform (w : Fin 6) (v : Word) (s : State) :
    (s.setCtext w v).platform = s.platform := rfl
@[simp] theorem State.setCtext_program (w : Fin 6) (v : Word) (s : State) :
    (s.setCtext w v).program = s.program := rfl
@[simp] theorem State.setCtext_sched (w : Fin 6) (v : Word) (s : State) :
    (s.setCtext w v).sched = s.sched := rfl
@[simp] theorem State.setCtext_transcript (w : Fin 6) (v : Word) (s : State) :
    (s.setCtext w v).transcript = s.transcript := rfl
@[simp] theorem State.setCtext_draws (w : Fin 6) (v : Word) (s : State) :
    (s.setCtext w v).draws = s.draws := rfl

/-! ### State.clearByOne -/

@[simp] theorem State.clearByOne_busy (v : Word) (s : State) : (s.clearByOne v).busy = s.busy := rfl
@[simp] theorem State.clearByOne_done (v : Word) (s : State) :
    (s.clearByOne v).done = (s.done && !v.getLsbD 1) := rfl
@[simp] theorem State.clearByOne_sv (v : Word) (s : State) : (s.clearByOne v).sv = s.sv := rfl
@[simp] theorem State.clearByOne_ign (v : Word) (s : State) :
    (s.clearByOne v).ign = (s.ign && !v.getLsbD 4) := rfl
@[simp] theorem State.clearByOne_errcode (v : Word) (s : State) :
    (s.clearByOne v).errcode = s.errcode := rfl
@[simp] theorem State.clearByOne_ie (v : Word) (s : State) : (s.clearByOne v).ie = s.ie := rfl
@[simp] theorem State.clearByOne_cost (v : Word) (s : State) : (s.clearByOne v).cost = s.cost := rfl
@[simp] theorem State.clearByOne_klen (v : Word) (s : State) : (s.clearByOne v).klen = s.klen := rfl
@[simp] theorem State.clearByOne_salt (v : Word) (s : State) : (s.clearByOne v).salt = s.salt := rfl
@[simp] theorem State.clearByOne_key (v : Word) (s : State) : (s.clearByOne v).key = s.key := rfl
@[simp] theorem State.clearByOne_ctext (v : Word) (s : State) :
    (s.clearByOne v).ctext = s.ctext := rfl
@[simp] theorem State.clearByOne_hash (v : Word) (s : State) : (s.clearByOne v).hash = s.hash := rfl
@[simp] theorem State.clearByOne_bf (v : Word) (s : State) : (s.clearByOne v).bf = s.bf := rfl
@[simp] theorem State.clearByOne_curOp (v : Word) (s : State) :
    (s.clearByOne v).curOp = s.curOp := rfl
@[simp] theorem State.clearByOne_hidden (v : Word) (s : State) :
    (s.clearByOne v).hidden = s.hidden := rfl
@[simp] theorem State.clearByOne_platform (v : Word) (s : State) :
    (s.clearByOne v).platform = s.platform := rfl
@[simp] theorem State.clearByOne_program (v : Word) (s : State) :
    (s.clearByOne v).program = s.program := rfl
@[simp] theorem State.clearByOne_sched (v : Word) (s : State) :
    (s.clearByOne v).sched = s.sched := rfl
@[simp] theorem State.clearByOne_transcript (v : Word) (s : State) :
    (s.clearByOne v).transcript = s.transcript := rfl
@[simp] theorem State.clearByOne_draws (v : Word) (s : State) :
    (s.clearByOne v).draws = s.draws := rfl

/-! ### State.record -/

@[simp] theorem State.record_busy (e : Entry) (s : State) : (s.record e).busy = s.busy := rfl
@[simp] theorem State.record_done (e : Entry) (s : State) : (s.record e).done = s.done := rfl
@[simp] theorem State.record_sv (e : Entry) (s : State) : (s.record e).sv = s.sv := rfl
@[simp] theorem State.record_ign (e : Entry) (s : State) : (s.record e).ign = s.ign := rfl
@[simp] theorem State.record_errcode (e : Entry) (s : State) :
    (s.record e).errcode = s.errcode := rfl
@[simp] theorem State.record_ie (e : Entry) (s : State) : (s.record e).ie = s.ie := rfl
@[simp] theorem State.record_cost (e : Entry) (s : State) : (s.record e).cost = s.cost := rfl
@[simp] theorem State.record_klen (e : Entry) (s : State) : (s.record e).klen = s.klen := rfl
@[simp] theorem State.record_salt (e : Entry) (s : State) : (s.record e).salt = s.salt := rfl
@[simp] theorem State.record_key (e : Entry) (s : State) : (s.record e).key = s.key := rfl
@[simp] theorem State.record_ctext (e : Entry) (s : State) : (s.record e).ctext = s.ctext := rfl
@[simp] theorem State.record_hash (e : Entry) (s : State) : (s.record e).hash = s.hash := rfl
@[simp] theorem State.record_bf (e : Entry) (s : State) : (s.record e).bf = s.bf := rfl
@[simp] theorem State.record_curOp (e : Entry) (s : State) : (s.record e).curOp = s.curOp := rfl
@[simp] theorem State.record_hidden (e : Entry) (s : State) : (s.record e).hidden = s.hidden := rfl
@[simp] theorem State.record_platform (e : Entry) (s : State) :
    (s.record e).platform = s.platform := rfl
@[simp] theorem State.record_program (e : Entry) (s : State) :
    (s.record e).program = s.program := rfl
@[simp] theorem State.record_sched (e : Entry) (s : State) : (s.record e).sched = s.sched := rfl
@[simp] theorem State.record_transcript (e : Entry) (s : State) :
    (s.record e).transcript = e :: s.transcript := rfl
@[simp] theorem State.record_draws (e : Entry) (s : State) : (s.record e).draws = s.draws := rfl

/-! ### State.clearResult -/

@[simp] theorem State.clearResult_busy (s : State) : s.clearResult.busy = s.busy := rfl
@[simp] theorem State.clearResult_done (s : State) : s.clearResult.done = false := rfl
@[simp] theorem State.clearResult_sv (s : State) : s.clearResult.sv = s.sv := rfl
@[simp] theorem State.clearResult_ign (s : State) : s.clearResult.ign = s.ign := rfl
@[simp] theorem State.clearResult_errcode (s : State) : s.clearResult.errcode = 0 := rfl
@[simp] theorem State.clearResult_ie (s : State) : s.clearResult.ie = s.ie := rfl
@[simp] theorem State.clearResult_cost (s : State) : s.clearResult.cost = s.cost := rfl
@[simp] theorem State.clearResult_klen (s : State) : s.clearResult.klen = s.klen := rfl
@[simp] theorem State.clearResult_salt (s : State) : s.clearResult.salt = s.salt := rfl
@[simp] theorem State.clearResult_key (s : State) : s.clearResult.key = s.key := rfl
@[simp] theorem State.clearResult_ctext (s : State) : s.clearResult.ctext = s.ctext := rfl
@[simp] theorem State.clearResult_hash (s : State) : s.clearResult.hash = s.hash := rfl
@[simp] theorem State.clearResult_bf (s : State) : s.clearResult.bf = s.bf := rfl
@[simp] theorem State.clearResult_curOp (s : State) : s.clearResult.curOp = s.curOp := rfl
@[simp] theorem State.clearResult_hidden (s : State) : s.clearResult.hidden = s.hidden := rfl
@[simp] theorem State.clearResult_platform (s : State) : s.clearResult.platform = s.platform := rfl
@[simp] theorem State.clearResult_program (s : State) : s.clearResult.program = s.program := rfl
@[simp] theorem State.clearResult_sched (s : State) : s.clearResult.sched = s.sched := rfl
@[simp] theorem State.clearResult_transcript (s : State) :
    s.clearResult.transcript = s.transcript := rfl
@[simp] theorem State.clearResult_draws (s : State) : s.clearResult.draws = s.draws := rfl

/-! ### State.endWithError -/

@[simp] theorem State.endWithError_busy (e : CmdError) (s : State) :
    (s.endWithError e).busy = s.busy := rfl
@[simp] theorem State.endWithError_done (e : CmdError) (s : State) :
    (s.endWithError e).done = true := rfl
@[simp] theorem State.endWithError_sv (e : CmdError) (s : State) :
    (s.endWithError e).sv = s.sv := rfl
@[simp] theorem State.endWithError_ign (e : CmdError) (s : State) :
    (s.endWithError e).ign = s.ign := rfl
@[simp] theorem State.endWithError_errcode (e : CmdError) (s : State) :
    (s.endWithError e).errcode = errorCode e := rfl
@[simp] theorem State.endWithError_ie (e : CmdError) (s : State) :
    (s.endWithError e).ie = s.ie := rfl
@[simp] theorem State.endWithError_cost (e : CmdError) (s : State) :
    (s.endWithError e).cost = s.cost := rfl
@[simp] theorem State.endWithError_klen (e : CmdError) (s : State) :
    (s.endWithError e).klen = s.klen := rfl
@[simp] theorem State.endWithError_salt (e : CmdError) (s : State) :
    (s.endWithError e).salt = s.salt := rfl
@[simp] theorem State.endWithError_key (e : CmdError) (s : State) :
    (s.endWithError e).key = s.key := rfl
@[simp] theorem State.endWithError_ctext (e : CmdError) (s : State) :
    (s.endWithError e).ctext = s.ctext := rfl
@[simp] theorem State.endWithError_hash (e : CmdError) (s : State) :
    (s.endWithError e).hash = s.hash := rfl
@[simp] theorem State.endWithError_bf (e : CmdError) (s : State) :
    (s.endWithError e).bf = s.bf := rfl
@[simp] theorem State.endWithError_curOp (e : CmdError) (s : State) :
    (s.endWithError e).curOp = s.curOp := rfl
@[simp] theorem State.endWithError_hidden (e : CmdError) (s : State) :
    (s.endWithError e).hidden = s.hidden := rfl
@[simp] theorem State.endWithError_platform (e : CmdError) (s : State) :
    (s.endWithError e).platform = s.platform := rfl
@[simp] theorem State.endWithError_program (e : CmdError) (s : State) :
    (s.endWithError e).program = s.program := rfl
@[simp] theorem State.endWithError_sched (e : CmdError) (s : State) :
    (s.endWithError e).sched = s.sched := rfl
@[simp] theorem State.endWithError_transcript (e : CmdError) (s : State) :
    (s.endWithError e).transcript = s.transcript := rfl
@[simp] theorem State.endWithError_draws (e : CmdError) (s : State) :
    (s.endWithError e).draws = s.draws := rfl

/-! ### State.invalidate -/

@[simp] theorem State.invalidate_busy (s : State) : s.invalidate.busy = s.busy := rfl
@[simp] theorem State.invalidate_done (s : State) : s.invalidate.done = s.done := rfl
@[simp] theorem State.invalidate_sv (s : State) : s.invalidate.sv = false := rfl
@[simp] theorem State.invalidate_ign (s : State) : s.invalidate.ign = s.ign := rfl
@[simp] theorem State.invalidate_errcode (s : State) : s.invalidate.errcode = s.errcode := rfl
@[simp] theorem State.invalidate_ie (s : State) : s.invalidate.ie = s.ie := rfl
@[simp] theorem State.invalidate_cost (s : State) : s.invalidate.cost = s.cost := rfl
@[simp] theorem State.invalidate_klen (s : State) : s.invalidate.klen = s.klen := rfl
@[simp] theorem State.invalidate_salt (s : State) : s.invalidate.salt = s.salt := rfl
@[simp] theorem State.invalidate_key (s : State) : s.invalidate.key = s.key := rfl
@[simp] theorem State.invalidate_ctext (s : State) : s.invalidate.ctext = s.ctext := rfl
@[simp] theorem State.invalidate_hash (s : State) : s.invalidate.hash = s.hash := rfl
@[simp] theorem State.invalidate_bf (s : State) : s.invalidate.bf = s.bf := rfl
@[simp] theorem State.invalidate_curOp (s : State) : s.invalidate.curOp = s.curOp := rfl
@[simp] theorem State.invalidate_hidden (s : State) : s.invalidate.hidden = s.hidden := rfl
@[simp] theorem State.invalidate_platform (s : State) : s.invalidate.platform = s.platform := rfl
@[simp] theorem State.invalidate_program (s : State) : s.invalidate.program = s.program := rfl
@[simp] theorem State.invalidate_sched (s : State) : s.invalidate.sched = s.sched := rfl
@[simp] theorem State.invalidate_transcript (s : State) :
    s.invalidate.transcript = s.transcript := rfl
@[simp] theorem State.invalidate_draws (s : State) : s.invalidate.draws = s.draws := rfl

/-! ### State.start -/

@[simp] theorem State.start_busy (i : Instr) (s : State) : (s.start i).busy = true := rfl
@[simp] theorem State.start_done (i : Instr) (s : State) : (s.start i).done = s.done := rfl
@[simp] theorem State.start_sv (i : Instr) (s : State) : (s.start i).sv = s.sv := rfl
@[simp] theorem State.start_ign (i : Instr) (s : State) : (s.start i).ign = s.ign := rfl
@[simp] theorem State.start_errcode (i : Instr) (s : State) : (s.start i).errcode = s.errcode := rfl
@[simp] theorem State.start_ie (i : Instr) (s : State) : (s.start i).ie = s.ie := rfl
@[simp] theorem State.start_cost (i : Instr) (s : State) : (s.start i).cost = s.cost := rfl
@[simp] theorem State.start_klen (i : Instr) (s : State) : (s.start i).klen = s.klen := rfl
@[simp] theorem State.start_salt (i : Instr) (s : State) : (s.start i).salt = s.salt := rfl
@[simp] theorem State.start_key (i : Instr) (s : State) : (s.start i).key = s.key := rfl
@[simp] theorem State.start_ctext (i : Instr) (s : State) : (s.start i).ctext = s.ctext := rfl
@[simp] theorem State.start_hash (i : Instr) (s : State) : (s.start i).hash = s.hash := rfl
@[simp] theorem State.start_bf (i : Instr) (s : State) : (s.start i).bf = s.bf := rfl
@[simp] theorem State.start_curOp (i : Instr) (s : State) : (s.start i).curOp = some i := rfl
@[simp] theorem State.start_hidden (i : Instr) (s : State) : (s.start i).hidden = s.hidden := rfl
@[simp] theorem State.start_platform (i : Instr) (s : State) :
    (s.start i).platform = s.platform := rfl
@[simp] theorem State.start_program (i : Instr) (s : State) : (s.start i).program = s.program := rfl
@[simp] theorem State.start_sched (i : Instr) (s : State) : (s.start i).sched = s.sched := rfl
@[simp] theorem State.start_transcript (i : Instr) (s : State) :
    (s.start i).transcript = s.transcript := rfl
@[simp] theorem State.start_draws (i : Instr) (s : State) : (s.start i).draws = s.draws := rfl

/-! ### State.complete -/

@[simp] theorem State.complete_busy (s : State) : s.complete.busy = false := rfl
@[simp] theorem State.complete_done (s : State) : s.complete.done = true := rfl
@[simp] theorem State.complete_sv (s : State) : s.complete.sv = s.sv := rfl
@[simp] theorem State.complete_ign (s : State) : s.complete.ign = s.ign := rfl
@[simp] theorem State.complete_errcode (s : State) : s.complete.errcode = s.errcode := rfl
@[simp] theorem State.complete_ie (s : State) : s.complete.ie = s.ie := rfl
@[simp] theorem State.complete_cost (s : State) : s.complete.cost = s.cost := rfl
@[simp] theorem State.complete_klen (s : State) : s.complete.klen = s.klen := rfl
@[simp] theorem State.complete_salt (s : State) : s.complete.salt = s.salt := rfl
@[simp] theorem State.complete_key (s : State) : s.complete.key = s.key := rfl
@[simp] theorem State.complete_ctext (s : State) : s.complete.ctext = s.ctext := rfl
@[simp] theorem State.complete_hash (s : State) : s.complete.hash = s.hash := rfl
@[simp] theorem State.complete_bf (s : State) : s.complete.bf = s.bf := rfl
@[simp] theorem State.complete_curOp (s : State) : s.complete.curOp = none := rfl
@[simp] theorem State.complete_hidden (s : State) : s.complete.hidden = freeHidden s.draws := rfl
@[simp] theorem State.complete_platform (s : State) : s.complete.platform = s.platform := rfl
@[simp] theorem State.complete_program (s : State) : s.complete.program = s.program := rfl
@[simp] theorem State.complete_sched (s : State) : s.complete.sched = s.sched := rfl
@[simp] theorem State.complete_transcript (s : State) : s.complete.transcript = s.transcript := rfl
@[simp] theorem State.complete_draws (s : State) : s.complete.draws = s.draws + hiddenDraws := rfl

/-! ### State.expandKey -/

@[simp] theorem State.expandKey_busy (s : State) : s.expandKey.busy = s.busy := rfl
@[simp] theorem State.expandKey_done (s : State) : s.expandKey.done = s.done := rfl
@[simp] theorem State.expandKey_sv (s : State) : s.expandKey.sv = true := rfl
@[simp] theorem State.expandKey_ign (s : State) : s.expandKey.ign = s.ign := rfl
@[simp] theorem State.expandKey_errcode (s : State) : s.expandKey.errcode = s.errcode := rfl
@[simp] theorem State.expandKey_ie (s : State) : s.expandKey.ie = s.ie := rfl
@[simp] theorem State.expandKey_cost (s : State) : s.expandKey.cost = s.cost := rfl
@[simp] theorem State.expandKey_klen (s : State) : s.expandKey.klen = s.klen := rfl
@[simp] theorem State.expandKey_salt (s : State) : s.expandKey.salt = s.salt := rfl
@[simp] theorem State.expandKey_key (s : State) : s.expandKey.key = s.key := rfl
@[simp] theorem State.expandKey_ctext (s : State) : s.expandKey.ctext = s.ctext := rfl
@[simp] theorem State.expandKey_hash (s : State) : s.expandKey.hash = s.hash := rfl
@[simp] theorem State.expandKey_bf (s : State) :
    s.expandKey.bf = eksSetup s.cost.toNat s.klen.toNat s.key s.salt := rfl
@[simp] theorem State.expandKey_curOp (s : State) : s.expandKey.curOp = s.curOp := rfl
@[simp] theorem State.expandKey_hidden (s : State) : s.expandKey.hidden = s.hidden := rfl
@[simp] theorem State.expandKey_platform (s : State) : s.expandKey.platform = s.platform := rfl
@[simp] theorem State.expandKey_program (s : State) : s.expandKey.program = s.program := rfl
@[simp] theorem State.expandKey_sched (s : State) : s.expandKey.sched = s.sched := rfl
@[simp] theorem State.expandKey_transcript (s : State) :
    s.expandKey.transcript = s.transcript := rfl
@[simp] theorem State.expandKey_draws (s : State) : s.expandKey.draws = s.draws := rfl

/-! ### State.storeHash -/

@[simp] theorem State.storeHash_busy (c : Vector Word 6) (s : State) :
    (s.storeHash c).busy = s.busy := rfl
@[simp] theorem State.storeHash_done (c : Vector Word 6) (s : State) :
    (s.storeHash c).done = s.done := rfl
@[simp] theorem State.storeHash_sv (c : Vector Word 6) (s : State) :
    (s.storeHash c).sv = s.sv := rfl
@[simp] theorem State.storeHash_ign (c : Vector Word 6) (s : State) :
    (s.storeHash c).ign = s.ign := rfl
@[simp] theorem State.storeHash_errcode (c : Vector Word 6) (s : State) :
    (s.storeHash c).errcode = s.errcode := rfl
@[simp] theorem State.storeHash_ie (c : Vector Word 6) (s : State) :
    (s.storeHash c).ie = s.ie := rfl
@[simp] theorem State.storeHash_cost (c : Vector Word 6) (s : State) :
    (s.storeHash c).cost = s.cost := rfl
@[simp] theorem State.storeHash_klen (c : Vector Word 6) (s : State) :
    (s.storeHash c).klen = s.klen := rfl
@[simp] theorem State.storeHash_salt (c : Vector Word 6) (s : State) :
    (s.storeHash c).salt = s.salt := rfl
@[simp] theorem State.storeHash_key (c : Vector Word 6) (s : State) :
    (s.storeHash c).key = s.key := rfl
@[simp] theorem State.storeHash_ctext (c : Vector Word 6) (s : State) :
    (s.storeHash c).ctext = s.ctext := rfl
@[simp] theorem State.storeHash_hash (c : Vector Word 6) (s : State) :
    (s.storeHash c).hash = encrypt64 s.bf c := rfl
@[simp] theorem State.storeHash_bf (c : Vector Word 6) (s : State) :
    (s.storeHash c).bf = s.bf := rfl
@[simp] theorem State.storeHash_curOp (c : Vector Word 6) (s : State) :
    (s.storeHash c).curOp = s.curOp := rfl
@[simp] theorem State.storeHash_hidden (c : Vector Word 6) (s : State) :
    (s.storeHash c).hidden = s.hidden := rfl
@[simp] theorem State.storeHash_platform (c : Vector Word 6) (s : State) :
    (s.storeHash c).platform = s.platform := rfl
@[simp] theorem State.storeHash_program (c : Vector Word 6) (s : State) :
    (s.storeHash c).program = s.program := rfl
@[simp] theorem State.storeHash_sched (c : Vector Word 6) (s : State) :
    (s.storeHash c).sched = s.sched := rfl
@[simp] theorem State.storeHash_transcript (c : Vector Word 6) (s : State) :
    (s.storeHash c).transcript = s.transcript := rfl
@[simp] theorem State.storeHash_draws (c : Vector Word 6) (s : State) :
    (s.storeHash c).draws = s.draws := rfl

/-! ### State.resetStep -/

@[simp] theorem State.resetStep_busy (s : State) : s.resetStep.busy = false := rfl
@[simp] theorem State.resetStep_done (s : State) : s.resetStep.done = false := rfl
@[simp] theorem State.resetStep_sv (s : State) : s.resetStep.sv = false := rfl
@[simp] theorem State.resetStep_ign (s : State) : s.resetStep.ign = false := rfl
@[simp] theorem State.resetStep_errcode (s : State) : s.resetStep.errcode = 0 := rfl
@[simp] theorem State.resetStep_ie (s : State) : s.resetStep.ie = false := rfl
@[simp] theorem State.resetStep_cost (s : State) : s.resetStep.cost = 0 := rfl
@[simp] theorem State.resetStep_klen (s : State) : s.resetStep.klen = 0 := rfl
@[simp] theorem State.resetStep_salt (s : State) : s.resetStep.salt = Vector.replicate 4 0 := rfl
@[simp] theorem State.resetStep_key (s : State) : s.resetStep.key = Vector.replicate 18 0 := rfl
@[simp] theorem State.resetStep_ctext (s : State) : s.resetStep.ctext = magic := rfl
@[simp] theorem State.resetStep_hash (s : State) : s.resetStep.hash = Vector.replicate 6 0 := rfl
@[simp] theorem State.resetStep_bf (s : State) : s.resetStep.bf = freeBlowfish s.draws := rfl
@[simp] theorem State.resetStep_curOp (s : State) : s.resetStep.curOp = none := rfl
@[simp] theorem State.resetStep_hidden (s : State) :
    s.resetStep.hidden = freeHidden (s.draws + blowfishDraws) := rfl
@[simp] theorem State.resetStep_platform (s : State) : s.resetStep.platform = s.platform := rfl
@[simp] theorem State.resetStep_program (s : State) : s.resetStep.program = s.program := rfl
@[simp] theorem State.resetStep_sched (s : State) : s.resetStep.sched = s.sched := rfl
@[simp] theorem State.resetStep_transcript (s : State) :
    s.resetStep.transcript = s.transcript := rfl
@[simp] theorem State.resetStep_draws (s : State) :
    s.resetStep.draws = s.draws + (blowfishDraws + hiddenDraws) := rfl

end Sys2Proof.Machine
end

