-- ==== Sys2Proof/Laws/Command.lean ====
section
/-!
SUPPORT. What the life of a command can do: one lemma per shared operation, and the cases of `exec`.
-/

namespace Sys2Proof.Machine

/-- The check of a command (R266). -/
def checkOf : Instr → State → Option CmdError
  | .setup | .hash => operandCheck
  | .encrypt => stateCheck

/-- What a command does as it starts, beside BUSY and CUR_OP (R232). -/
def claimOf : Instr → State → State
  | .setup | .hash => State.invalidate
  | .encrypt => fun s => s

/-- What a command does as it completes, beside BUSY, CUR_OP and DONE (R241). -/
def finishOf : Instr → State → State
  | .setup => State.expandKey
  | .encrypt => fun s => s.storeHash s.ctext
  | .hash => fun s => s.expandKey.storeHash magic

/-- Every command is the shared operation with its own check, start and end. -/
theorem exec_eq_command (i : Instr) (s : State) :
    exec i s = command i (checkOf i) (claimOf i) (finishOf i) s := by
  cases i <;> rfl

/-- A command at an idle engine is accepted. -/
theorem exec_idle {i : Instr} {s : State} (h : s.busy = false) :
    exec i s = .next (s.accept i (checkOf i) (claimOf i)) := by
  simp [exec_eq_command, command, h]

/-- The running command completes. -/
theorem exec_running {i : Instr} {s : State} (h : s.busy = true) (hc : s.curOp = some i) :
    exec i s = .next (finishOf i s).complete := by
  simp [exec_eq_command, command, h, hc]

/-- Any other command while one runs is a lost write. -/
theorem exec_other {i : Instr} {s : State} (h : s.busy = true) (hc : s.curOp ≠ some i) :
    exec i s = .next s.ignoreWrite := by
  simp [exec_eq_command, command, h, hc]

/-- All that `exec` can do. -/
theorem exec_cases (i : Instr) (s : State) :
    (s.busy = false ∧ exec i s = .next (s.accept i (checkOf i) (claimOf i))) ∨
    (s.busy = true ∧ s.curOp = some i ∧ exec i s = .next (finishOf i s).complete) ∨
    (s.busy = true ∧ s.curOp ≠ some i ∧ exec i s = .next s.ignoreWrite) := by
  cases h : s.busy with
  | false => exact .inl ⟨rfl, exec_idle h⟩
  | true =>
    by_cases hc : s.curOp = some i
    · exact .inr (.inl ⟨rfl, hc, exec_running h hc⟩)
    · exact .inr (.inr ⟨rfl, hc, exec_other h hc⟩)

/-- No instruction faults or is refused. -/
theorem exec_next (i : Instr) (s : State) : ∃ t, exec i s = .next t := by
  obtain ⟨_, h⟩ | ⟨_, _, h⟩ | ⟨_, _, h⟩ := exec_cases i s <;> exact ⟨_, h⟩

/-- All that an acceptance can do: an error end, or a start. -/
theorem accept_cases (i : Instr) (check : State → Option CmdError) (claim : State → State)
    (s : State) :
    (∃ e, check s = some e ∧ s.accept i check claim = s.clearResult.endWithError e) ∨
    (check s = none ∧ s.accept i check claim = (claim s.clearResult).start i) := by
  unfold State.accept
  cases h : check s with
  | some e => exact .inl ⟨e, rfl, rfl⟩
  | none => exact .inr ⟨rfl, rfl⟩

/-- The operand check passes exactly on the legal operands (R263, R264). -/
theorem operandCheck_eq_none {s : State} :
    operandCheck s = none ↔ 4 ≤ s.cost.toNat ∧ 1 ≤ s.klen.toNat ∧ s.klen.toNat ≤ 72 := by
  unfold operandCheck
  split
  · simp; omega
  · split
    · simp; omega
    · simp; omega

/-- The state check passes exactly when the state is valid (R265). -/
theorem stateCheck_eq_none {s : State} : stateCheck s = none ↔ s.sv = true := by
  simp [stateCheck]

/-- Every error has a code from 1 to 4 (R261). -/
theorem errorCode_range (e : CmdError) : 1 ≤ (errorCode e).toNat ∧ (errorCode e).toNat ≤ 4 := by
  cases e <;> decide

/-- The operand check reads COST and KLEN only. -/
theorem operandCheck_congr {s t : State} (hc : t.cost = s.cost) (hk : t.klen = s.klen) :
    operandCheck t = operandCheck s := by
  simp [operandCheck, hc, hk]

end Sys2Proof.Machine
end

