-- ==== Sys2Proof/Laws/Bus.lean ====
section
/-!
SUPPORT. What a transaction, a turn and a step can do: one inversion lemma per shared operation.
-/

namespace Sys2Proof.Machine

/-- A read leaves the state alone but for the counter of free values (R69). -/
theorem readReg_state (s : State) (r : Option Reg) :
    (s.readReg r).2 = s ∨ (s.readReg r).2 = { s with draws := s.draws + 1 } := by
  unfold State.readReg
  split
  · exact .inr rfl
  · exact .inl rfl

/-- The state after a read access is the state before, but for the counter of free values. -/
theorem readReply_state {who addr bytes : Nat} {s : State} {x : Reply × State}
    (h : readReply who addr bytes s = some x) : ∃ n, x.2 = { s with draws := n } := by
  unfold readReply at h
  split at h
  · cases h
    obtain h | h := readReg_state s ‹_›
    · exact ⟨s.draws, h⟩
    · exact ⟨_, h⟩
  all_goals
    split at h
    · cases h
    · cases h; exact ⟨s.draws, rfl⟩
    · cases h; exact ⟨s.draws, rfl⟩

/-- A busy-locked write while a command runs only sets IGN. -/
theorem lockedWrite_busy {store : State → State} {s : State} (h : s.busy = true) :
    s.lockedWrite store = s.ignoreWrite := by
  simp [State.lockedWrite, h]

/-- A busy-locked write while the engine is idle is stored. -/
theorem lockedWrite_idle {store : State → State} {s : State} (h : s.busy = false) :
    s.lockedWrite store = store s := by
  simp [State.lockedWrite, h]

/-- An aligned offset inside the window reaches the register it selects (R62, R65). -/
theorem claim_offset (p : Platform) {off : Nat} (h : off % 4 = 0 ∧ off < 0x4000) :
    claim p (windowBase p + off) 4 = .accepted (regAt off) := by
  unfold claim windowSize
  rw [if_pos (by omega)]
  simp [h.1]

/-- The access policy admits the number `admittedIssuer`. -/
theorem admits_admitted (p : Platform) : admits p (admittedIssuer p) = true := by
  have h : ∀ (l : List Nat), ∀ x ∈ l, x ≤ l.sum := fun l x hx => List.le_sum_of_mem hx
  simp only [admits, admittedIssuer, List.contains_eq_mem, Bool.not_eq_true',
    decide_eq_false_iff_not]
  intro hx
  have := h _ _ hx
  omega

/-- An access by admitted software goes to the block. -/
theorem route_admitted {p : Platform} {who : Nat} (h : admits p who = true) (addr bytes : Nat) :
    route p who addr bytes = claim p addr bytes := by
  simp [route, h]

/-- Overtaking reorders the program and changes nothing else. -/
theorem overtake_eq (k : Nat) (s : State) : ∃ p, s.overtake k = { s with program := p } := by
  unfold State.overtake
  split
  · exact ⟨s.program, rfl⟩
  · exact ⟨_, rfl⟩

/-- Overtaking neither adds nor drops a transaction. -/
theorem moveToFront_perm (k : Nat) (program : List Transaction) :
    (moveToFront k program).Perm program := by
  unfold moveToFront
  split
  · rename_i tx h
    obtain ⟨hk, rfl⟩ := List.getElem?_eq_some_iff.mp h
    exact (List.getElem_cons_eraseIdx_perm hk)
  · exact .refl _

/-- All that a write of a register other than CMD can do. -/
theorem writeReg_cases (r : Option Reg) (v : Word) (s : State) :
    s.writeReg r v = s ∨ s.writeReg r v = s.clearByOne v ∨ s.writeReg r v = s.setCtrl v ∨
    (s.busy = true ∧ s.writeReg r v = s.ignoreWrite) ∨
    (s.busy = false ∧
      (s.writeReg r v = s.setCost v ∨ s.writeReg r v = s.setKlen v ∨
        (∃ w, s.writeReg r v = s.setSalt w v) ∨ (∃ w, s.writeReg r v = s.setKey w v) ∨
        ∃ w, s.writeReg r v = s.setCtext w v)) := by
  unfold State.writeReg State.lockedWrite
  cases h : s.busy <;> cases r with
  | none => simp
  | some r =>
    cases r <;> simp <;> first
      | exact .inr (.inr (.inr (.inr (.inr (.inl ⟨_, rfl⟩)))))
      | exact .inr (.inr (.inr (.inr (.inr (.inr (.inl ⟨_, rfl⟩))))))
      | exact .inr (.inr (.inr (.inr (.inr (.inr (.inr ⟨_, rfl⟩))))))

/-- What a write of a register other than CMD leaves alone, in every state and while a command runs. -/
theorem writeReg_frame (r : Option Reg) (v : Word) (s : State) :
    let t := s.writeReg r v
    (t.busy = s.busy ∧ t.sv = s.sv ∧ t.errcode = s.errcode ∧ t.hash = s.hash ∧ t.bf = s.bf ∧
      t.curOp = s.curOp ∧ t.hidden = s.hidden ∧ t.platform = s.platform ∧ t.program = s.program ∧
      t.sched = s.sched ∧ t.transcript = s.transcript ∧ t.draws = s.draws) ∧
    (s.busy = true → t.cost = s.cost ∧ t.klen = s.klen ∧ t.salt = s.salt ∧ t.key = s.key ∧
      t.ctext = s.ctext) := by
  intro t
  rcases writeReg_cases r v s with h | h | h | ⟨hb, h⟩ | ⟨hb, h | h | ⟨w, h⟩ | ⟨w, h⟩ | ⟨w, h⟩⟩ <;>
    simp [t, h] <;> simp_all

/-- All that an accepted write can do: a write of a register other than CMD, or a CMD write, which is
lost, accepted as a command, or accepted as an illegal word. -/
theorem busWrite_cases (r : Option Reg) (v : Word) (s : State) :
    (r ≠ some .cmd ∧ busWrite r v s = .next (s.writeReg r v)) ∨
    (r = some .cmd ∧ s.busy = true ∧ busWrite r v s = .next s.ignoreWrite) ∨
    (r = some .cmd ∧ s.busy = false ∧ ∃ i, decode v = .ok i ∧ busWrite r v s = exec i s) ∨
    (r = some .cmd ∧ s.busy = false ∧ (∃ e, decode v = .error e) ∧
      busWrite r v s = .next s.acceptIllegal) := by
  unfold busWrite
  split
  · rename_i hr
    unfold writeCmd
    cases hb : s.busy with
    | true => exact .inr (.inl ⟨hr, rfl, rfl⟩)
    | false =>
      cases hd : decode v with
      | ok i => exact .inr (.inr (.inl ⟨hr, rfl, i, rfl, rfl⟩))
      | error e => exact .inr (.inr (.inr ⟨hr, rfl, ⟨e, rfl⟩, rfl⟩))
  · exact .inl ⟨‹_›, rfl⟩

/-- What a host's turn can do to the state, apart from its program: nothing but record an answer and
count free values, or one accepted write. -/
inductive HostEffect (s : State) : State → Prop where
  | read (n : Nat) (es : List Entry) (p : List Transaction) :
      HostEffect s { s with draws := n, transcript := es, program := p }
  | write (who addr bytes : Nat) (r : Option Reg) (v : Word) (p : List Transaction) (t : State)
      (hp : s.program = ⟨who, .write addr bytes v⟩ :: p)
      (hc : route s.platform who addr bytes = .accepted r)
      (h : busWrite r v { s with program := p } = .next t) : HostEffect s t

theorem hostTurn_effect {s t : State} (h : hostTurn s = .next t) : HostEffect s t := by
  unfold hostTurn at h
  split at h
  · cases h; exact .read s.draws s.transcript s.program
  · rename_i who addr bytes v rest hp
    unfold hostWrite at h
    split at h
    · exact .write who addr bytes _ v rest t hp ‹_› h
    all_goals
      split at h
      · cases h
      · cases h; exact .read s.draws _ rest
      · cases h; exact .read s.draws s.transcript rest
  · rename_i who addr bytes e rest _
    unfold hostRead at h
    split at h
    · cases h
    · rename_i reply u hr
      obtain ⟨n, hn⟩ := readReply_state hr
      cases h; simp only at hn; subst hn
      exact .read n _ rest
  · rename_i who addr m v rest _
    unfold hostPoll at h
    split at h
    · cases h
    · rename_i reply u hr
      obtain ⟨n, hn⟩ := readReply_state hr
      simp only at hn; subst hn
      cases h
      split
      · exact .read n _ rest
      · exact .read n _ s.program

/-- The engine's turn: the completion of the running command, or nothing. -/
theorem engineTurn_cases (s : State) :
    (s.busy = false ∧ engineTurn s = .next s) ∨
    (s.busy = true ∧ s.curOp = none ∧ engineTurn s = .next s.complete) ∨
    (s.busy = true ∧ ∃ i, s.curOp = some i ∧ engineTurn s = .next (finishOf i s).complete) := by
  unfold engineTurn
  cases hb : s.busy with
  | false => exact .inl ⟨rfl, rfl⟩
  | true =>
    cases hc : s.curOp with
    | none => exact .inr (.inl ⟨rfl, rfl, rfl⟩)
    | some i => exact .inr (.inr ⟨rfl, i, rfl, exec_running hb hc⟩)

/-- All that a step which goes on can be: a reset, a host's turn alone, an engine's turn alone, or a
host's turn and then the engine's, or one that reorders the program. -/
theorem step_cases {s t : State} (h : step s = .next t) :
    (nextTurn s = .rst ∧ t = State.resetStep { s with sched := s.sched.tail }) ∨
    ((nextTurn s = .host ∨ nextTurn s = .sameCycle ∧ s.busy = false) ∧
      hostTurn { s with sched := s.sched.tail } = .next t) ∨
    (nextTurn s = .engine ∧ engineTurn { s with sched := s.sched.tail } = .next t) ∨
    (nextTurn s = .sameCycle ∧ s.busy = true ∧
      ∃ u, hostTurn { s with sched := s.sched.tail } = .next u ∧ engineTurn u = .next t) ∨
    (∃ k, nextTurn s = .overtake k ∧ t = State.overtake k { s with sched := s.sched.tail }) := by
  unfold step at h
  cases hn : nextTurn s <;> simp only [hn, takeTurn] at h
  · exact .inr (.inl ⟨.inl rfl, h⟩)
  · exact .inr (.inr (.inl ⟨rfl, h⟩))
  · unfold sameCycleTurn at h
    split at h
    · rename_i u hu
      split at h
      · exact .inr (.inr (.inr (.inl ⟨rfl, ‹_›, u, hu, h⟩)))
      · cases h; exact .inr (.inl ⟨.inr ⟨rfl, by simp_all⟩, hu⟩)
    · rename_i x hx
      exact absurd h (hx t)
  · cases h; exact .inl ⟨rfl, rfl⟩
  · cases h; exact .inr (.inr (.inr (.inr ⟨_, rfl, rfl⟩)))

end Sys2Proof.Machine
end

