-- ==== Sys2Proof/Laws/Datapath.lean ====
section
/-!
SUPPORT. The small laws of the datapath: reads of P and S after a write, the table words, repeated
application, and the blocks of six words.
-/

namespace Sys2Proof.Machine

/-! ### P and S -/

@[simp] theorem Blowfish.setP_s (bf : Blowfish) (i : Fin 18) (v : Word) : (bf.setP i v).s = bf.s := rfl
@[simp] theorem Blowfish.setS_p (bf : Blowfish) (b : Fin 4) (i : Fin 256) (v : Word) :
    (bf.setS b i v).p = bf.p := rfl

/-- A write to P[i] is read back, and leaves every other word of P. -/
theorem Blowfish.pWord_setP (bf : Blowfish) (i j : Fin 18) (v : Word) :
    (bf.setP i v).pWord j = if j = i then v else bf.pWord j := by
  simp only [Blowfish.pWord, Blowfish.setP, Vector.get_eq_getElem, Vector.getElem_set]
  split <;> split <;> simp_all [Fin.ext_iff]

@[simp] theorem Blowfish.sWord_setP (bf : Blowfish) (i : Fin 18) (v : Word) (b : Fin 4) (k : Fin 256) :
    (bf.setP i v).sWord b k = bf.sWord b k := rfl
@[simp] theorem Blowfish.pWord_setS (bf : Blowfish) (b : Fin 4) (k : Fin 256) (v : Word) (i : Fin 18) :
    (bf.setS b k v).pWord i = bf.pWord i := rfl

/-- A write to S[b][k] is read back, and leaves every other word of S. -/
theorem Blowfish.sWord_setS (bf : Blowfish) (b c : Fin 4) (k l : Fin 256) (v : Word) :
    (bf.setS b k v).sWord c l = if c = b ∧ l = k then v else bf.sWord c l := by
  simp only [Blowfish.sWord, Blowfish.setS, Vector.get_eq_getElem, Vector.getElem_set]
  by_cases hb : b = c
  · subst hb
    simp only [if_true, true_and, Vector.getElem_set]
    split <;> split <;> simp_all [Fin.ext_iff]
  · have : ¬ (b : Nat) = c := fun h => hb (Fin.ext h)
    simp [this, Ne.symm hb]

/-! ### The chain of an expansion -/

@[simp] theorem Chain.advance_bf (mix : Mix) (c : Chain) : (c.advance mix).bf = c.bf := rfl
@[simp] theorem Chain.advance_j (mix : Mix) (c : Chain) : (c.advance mix).j = c.j + 2 := rfl
@[simp] theorem Chain.advance_x (mix : Mix) (c : Chain) :
    (c.advance mix).x = c.bf.encipher (mix c.j c.x) := rfl
@[simp] theorem Chain.fillP_j (mix : Mix) (c : Chain) (i : Fin 9) : (c.fillP mix i).j = c.j + 2 := rfl
@[simp] theorem Chain.fillS_j (mix : Mix) (b : Fin 4) (c : Chain) (i : Fin 128) :
    (c.fillS mix b i).j = c.j + 2 := rfl

/-! ### Tables -/

/-- Word `i` of a table as a vector is entry `i` of the table. -/
theorem wordsOf_get {n : Nat} {t : List Nat} (h : t.length = n) (i : Fin n) :
    (wordsOf n t h).get i = BitVec.ofNat 32 (t.getD i.val 0) := by
  subst h
  simp [wordsOf, Vector.get]
  rfl

/-! ### Repeated application -/

@[simp] theorem iterate_zero {α : Type} (f : α → α) (x : α) : iterate f 0 x = x := rfl
theorem iterate_succ {α : Type} (f : α → α) (n : Nat) (x : α) :
    iterate f (n + 1) x = iterate f n (f x) := rfl

/-- `a + b` applications are `a` and then `b`. -/
theorem iterate_add {α : Type} (f : α → α) (a b : Nat) (x : α) :
    iterate f (a + b) x = iterate f b (iterate f a x) := by
  induction a generalizing x with
  | zero => simp
  | succ a ih => rw [Nat.succ_add, iterate_succ, iterate_succ, ih]

/-! ### The three blocks of six words -/

/-- A block that is replaced is read back. -/
@[simp] theorem blockOf_setBlock_same (c : Vector Word 6) (k : Fin 3) (x : Block) :
    blockOf (setBlock c k x) k = x := by
  simp [blockOf, setBlock, Vector.get_eq_getElem]

/-- Replacing one block leaves the others. -/
theorem blockOf_setBlock_of_ne (c : Vector Word 6) {k l : Fin 3} (x : Block) (h : l ≠ k) :
    blockOf (setBlock c k x) l = blockOf c l := by
  have : (l : Nat) ≠ k := fun e => h (Fin.ext e)
  simp only [blockOf, setBlock, Vector.get_eq_getElem, Vector.getElem_set]
  congr 1
  · rw [if_neg (by omega), if_neg (by omega)]
  · rw [if_neg (by omega), if_neg (by omega)]

end Sys2Proof.Machine
end

