-- ==== Sys2Proof/Laws/PerInstr.lean ====
section
/-!
SUPPORT. Statements for all instructions, made per instruction: the fields of each command's word.
-/

namespace Sys2Proof.Laws.EncodedFields

/-- A command is well formed, and its word has its OP in bits [3:0] and a zero RSVD above it (R100,
R101, R102). -/
def Statement (i : Instr) : Prop :=
  i.wf = true ∧ rsvdField (encode i) = 0 ∧ opField (encode i) = i.op

theorem setup : Statement .setup := ⟨by decide, by decide, by decide⟩
theorem encrypt : Statement .encrypt := ⟨by decide, by decide, by decide⟩
theorem hash : Statement .hash := ⟨by decide, by decide, by decide⟩

end Sys2Proof.Laws.EncodedFields
end

