-- ==== Sys2Proof/Tests/Slice0.lean ====
section
/-!
SUPPORT. Tests of the model against spec/95_test_vectors.md and the examples of the rules, and for each
statement with hypotheses a witness that meets them.

An expected value stands in the spec; each test names where.
-/

namespace Sys2Proof.Machine.Tests

/-! ### Helpers -/

/-- The step from `s` goes on to a state that meets `p`. -/
def stepMeets (s : State) (p : State → Bool) : Bool :=
  match step s with
  | .next t => p t
  | _ => false

theorem exists_of_stepMeets {s : State} {p : State → Bool} (h : stepMeets s p = true) :
    ∃ t, step s = .next t ∧ p t = true := by
  unfold stepMeets at h
  split at h
  · exact ⟨_, ‹_›, h⟩
  · cases h

/-- STATUS after the next step in which the host writes `w` to CMD. -/
def statusAfterCmd (s : State) (w : Word) (status : Word) : Bool :=
  stepMeets (s.withFetchWord 32 w.toNat) fun t => t.statusWord == status

/-- The next step is a host transaction of one assembled statement. -/
def withStmt (s : State) (x : HostStmt) : State :=
  { s with program := issue 0 (stmtOps s.platform x), sched := [.host] }

/-- Key, salt and cost of vector V7, idle. -/
def idle : State :=
  { State.reset with cost := 4, klen := 4, key := State.reset.key.set 0 0x61626300 }

/-- The state while command `i` runs. -/
def running (i : Instr) : State := { idle with busy := true, curOp := some i, sv := i == .encrypt }

/-- The salt of spec/95_test_vectors.md §2.3. -/
def salt0F : Vector Word 4 := #v[0x00010203, 0x04050607, 0x08090A0B, 0x0C0D0E0F]

/-- A key buffer whose first two words are given and whose others are `rest`. -/
def keyOf (a b rest : Word) : Vector Word 18 := ((Vector.replicate 18 rest).set 0 a).set 1 b

/-! ### Well-formedness: one ill-formed term for each check (R110) -/

theorem test_ill_formed_registers_refused :
    ([.salt 4, .key 18, .ctext 6, .hash 6, .pswin 1042] : List RegRef).all (fun r => !r.wf) = true ∧
    ([.salt 3, .key 17, .ctext 5, .hash 5, .pswin 1041, .raw 0x4001] : List RegRef).all RegRef.wf
      = true := by decide

theorem test_ill_formed_statements_refused :
    ([.wr .cmd 0x100000000, .wr (.key 18) 0, .rd (.pswin 1042), .rdEq .id 0x100000000,
      .rdEq (.hash 6) 0, .poll (.salt 4) 0 0, .poll .status 0x100000000 0,
      .poll .status 0 0x100000000, .ldcost 0x100000000, .ldsalt 0x100000000 0 0 0,
      .ldsalt 0 0x100000000 0 0, .ldsalt 0 0 0x100000000 0, .ldsalt 0 0 0 0x100000000,
      .ldkeyraw 0x100000000 (List.replicate 18 0), .ldkeyraw 1 (List.replicate 17 0),
      .ldkeyraw 1 (List.replicate 18 0x100000000)] : List HostStmt).all
        (fun x => !x.wf && (assemble Platform.initial [x]).isNone) = true := by decide

theorem test_well_formed_program_assembles :
    assemble Platform.initial [.wr .cmd 0xFFFFFFFF, .rd (.raw 0x00A), .ack] =
      some [.write 0x004 4 0xFFFFFFFF, .read 0x00A 4 none, .write 0x008 4 0x00000012] := by decide

/-! ### Decoding: words written out from R100 and R101 -/

theorem test_decode_setup : decode (0b0000000000000000000000000000_0001#32) = .ok .setup := by decide
theorem test_decode_encrypt : decode (0b0000000000000000000000000000_0010#32) = .ok .encrypt := by
  decide
theorem test_decode_hash : decode (0b0000000000000000000000000000_0011#32) = .ok .hash := by decide

/-- Every other OP, and each single bit of RSVD above each legal OP, is illegal (R103, R104). -/
theorem test_illegal_words :
    ((List.range 16).filter fun w => (decode (BitVec.ofNat 32 w)).toOption.isSome) = [1, 2, 3] ∧
    ((List.range 28).all fun b => [1, 2, 3].all fun op =>
      (decode (BitVec.ofNat 32 (2 ^ (b + 4) + op))).toOption.isNone) = true := by decide +kernel

theorem test_table_words :
    decodeTableWord 32 0x00000001 = some .setup ∧ decodeTableWord 32 0x00000002 = some .encrypt ∧
    decodeTableWord 32 0x00000003 = some .hash ∧ decodeTableWord 64 0x100000001 = none := by decide

/-! ### The instructions: one step each (95_test_vectors.md §2.8, R232, R241) -/

theorem test_setup_acceptance :
    statusAfterCmd State.reset 1 0x00000206 = true ∧
    statusAfterCmd { idle with klen := 73 } 1 0x00000306 = true ∧
    statusAfterCmd idle 1 0x00000001 = true := by decide +kernel

theorem test_setup_completion :
    stepMeets (running .setup) (fun t => t.statusWord == 0x0000000A && t.curOp == none) = true := by
  decide +kernel

theorem test_encrypt_acceptance :
    statusAfterCmd State.reset 2 0x00000406 = true ∧
    statusAfterCmd { idle with sv := true } 2 0x00000009 = true := by decide +kernel

theorem test_encrypt_completion :
    stepMeets (running .encrypt) (fun t => t.statusWord == 0x0000000A && t.curOp == none) = true := by
  decide +kernel

theorem test_hash_acceptance :
    statusAfterCmd { State.reset with cost := 4 } 3 0x00000306 = true ∧
    statusAfterCmd State.reset 3 0x00000206 = true ∧
    statusAfterCmd { idle with cost := 31, klen := 72, sv := true } 3 0x00000001 = true := by
  decide +kernel

theorem test_hash_completion :
    stepMeets (running .hash) (fun t => t.statusWord == 0x0000000A && t.curOp == none) = true := by
  decide +kernel

/-- Illegal words end at once with ILLEGAL_CMD (§2.8). -/
theorem test_illegal_command :
    statusAfterCmd idle 0x00000000 0x00000106 = true ∧
    statusAfterCmd idle 0x00000011 0x00000106 = true ∧
    statusAfterCmd idle 0x00000004 0x00000106 = true := by decide +kernel

/-! ### The register window (§2.8) -/

theorem test_reset_reads :
    State.reset.regWord (some .status) = 0x00000000 ∧
    State.reset.regWord (some (.ctext 5)) = 0x6F756274 ∧
    State.reset.regWord (some .id) = 0x42435259 ∧ State.reset.regWord (regAt 0x018) = 0x00000000 ∧
    State.reset.regWord (some .cmd) = 0x00000000 := by decide +kernel

theorem test_masked_writes :
    ((State.reset.writeReg (some .cost) 0xFFFFFFE4).regWord (some .cost)) = 0x00000004 ∧
    ((State.reset.writeReg (some .klen) 0xFFFFFFFF).regWord (some .klen)) = 0x0000007F ∧
    ((State.reset.writeReg (some .ctrl) 0xFFFFFFFF).regWord (some .ctrl)) = 0x00000001 := by
  decide +kernel

theorem test_status_write :
    stepMeets (withStmt { idle with done := true, sv := true } .ack)
      (fun t => t.statusWord == 0x00000008) = true ∧
    stepMeets (withStmt { idle with done := true, sv := true } (.wr .status 0xFFFFFFED))
      (fun t => t.statusWord == 0x0000000A) = true := by decide +kernel

theorem test_busy_locked_writes :
    stepMeets (withStmt (running .hash) (.wr (.key 0) 0x41414141))
      (fun t => t.key[0] == 0x61626300 && t.ign) = true ∧
    stepMeets (withStmt (running .hash) .setup)
      (fun t => t.ign && t.busy && t.curOp == some .hash && t.errcode == 0) = true := by decide +kernel

theorem test_interrupt_level :
    stepMeets (withStmt { idle with done := true } (.wr .ctrl 1)) State.irq = true ∧
    stepMeets (withStmt { idle with done := true, ie := true } (.wr .status 2))
      (fun t => !t.irq) = true ∧
    ({ idle with done := true, ie := true } : State).irqLineLevel 0 = true := by decide +kernel

/-- Refused accesses: the wrong width and misaligned (§2.8), and a raw offset past 0x3FFC (R110). -/
theorem test_bus_errors :
    hostRead 0 0x008 2 none State.reset = .fault .busError ∧
    step (withStmt idle (.rd (.raw 0x00A))) = .fault .busError ∧
    step (withStmt idle (.rd (.raw 0x4000))) = .fault .busError := by
  refine ⟨?_, ?_, ?_⟩ <;> rfl

/-- The map of R21: the last offset of each group, and the words on both sides of each reserved range
(R63). -/
theorem test_address_map :
    regAt 0x02C = some (.salt 3) ∧ regAt 0x084 = some (.key 17) ∧ regAt 0x0B4 = some (.ctext 5) ∧
    regAt 0x0D4 = some (.hash 5) ∧ regAt 0x1044 = some (.pswin 17) ∧
    regAt 0x1048 = some (.pswin 18) ∧ regAt 0x2044 = some (.pswin 1041) ∧
    ([0x014, 0x020, 0x02C, 0x040, 0x084, 0x0A0, 0x0B4, 0x0C0, 0x0D4, 0x1000, 0x2044].all
      fun off => (regAt off).isSome) = true ∧
    ([0x018, 0x01C, 0x030, 0x03C, 0x088, 0x09C, 0x0B8, 0x0BC, 0x0D8, 0xFFC, 0x2048, 0x3FFC].all
      fun off => (regAt off).isNone) = true := by decide +kernel

/-! ### The datapath (§2.1 to §2.4) -/

theorem test_f :
    initState.f 0x01020304 = 0x3CEDFF8C ∧ initState.f 0xFFFFFFFF = 0x452C2867 ∧
    initState.f 0x243F6A88 = 0xDB2F9C4E := by decide +kernel

theorem test_encipher : initState.encipher (0x00000001, 0x00000002) = (0x6714C932, 0xDFBBFD89) := by
  decide +kernel

theorem test_decipher : initState.decipher (0x706D9FCC, 0x1792D23A) = (0, 0) := by decide +kernel

theorem test_streams :
    keyWord (keyOf 0x61626300 0x55555555 0x55555555) 4 2 = 0x61626300 ∧
    keyWord (keyOf 0x00555555 0 0) 1 17 = 0x00000000 ∧
    saltWord salt0F 4 = 0x00010203 ∧ saltWord salt0F 18 = 0x08090A0B ∧
    saltKeyWord salt0F 3 = 0x0C0D0E0F := by decide +kernel

theorem test_xor_key :
    (xorKeyIntoP (keyWord (keyOf 0x61626300 0 0) 4) initState).pWord 0 = 0x455D0988 := by
  decide +kernel

/-- `ldkey "abc"` (R109, program C). -/
theorem test_ldkey :
    keyBufferWord (keyBytes [0x61, 0x62, 0x63]) 0 = 0x61626300 ∧
    (keyBytes (List.replicate 73 0x55)).length = 72 ∧
    passwordKeyBytes [0x61, 0x00, 0x62] = [0x61, 0x00] := by decide +kernel

/-! ### Witnesses: a state and operands that meet the hypotheses of each statement -/

/-- `DecodeEncodeAgree`, `StepRunsTheFetchedWord`, `IllegalWordsRaiseIllegalCmd`. -/
theorem witness_words :
    Instr.setup.wf = true ∧ decode 0x00000001 = .ok .setup ∧ decodeTableWord 32 3 = some .hash ∧
    (0x00000010 : Word).extractLsb' 4 28 ≠ 0 ∧
    ((0x00000004 : Word).extractLsb' 0 4 ≠ 1 ∧ (0x00000004 : Word).extractLsb' 0 4 ≠ 2 ∧
      (0x00000004 : Word).extractLsb' 0 4 ≠ 3) ∧
    idle.busy = false ∧ (running .hash).busy = true := by decide +kernel

/-- `StepRunsTheDecodedInstruction`, both clauses. -/
theorem witness_step_runs :
    (nextTurn (withStmt idle .hash) = .host ∧ (withStmt idle .hash).program = [⟨0, .write 4 4 3⟩] ∧
      route idle.platform 0 4 4 = .accepted (some .cmd) ∧ idle.busy = false ∧ decode 3 = .ok .hash) ∧
    (nextTurn (running .hash) = .engine ∧ (running .hash).busy = true ∧
      (running .hash).curOp = some .hash) := by decide +kernel

/-- `LegalCommandStarts`, for each command, at both ends of each operand's range. -/
theorem witness_starts :
    idle.busy = false ∧ startsIn .setup idle ∧
    startsIn .hash { idle with cost := 31, klen := 72 } ∧ startsIn .hash { idle with klen := 1 } ∧
    startsIn .encrypt { idle with sv := true } := by
  refine ⟨rfl, ?_, ?_, ?_, rfl⟩ <;> (unfold startsIn; decide +kernel)

/-- `FailedCheckEndsTheCommand`, each clause at the ends of its range. -/
theorem witness_failed_checks :
    (Instr.setup ≠ .encrypt ∧ State.reset.busy = false ∧ State.reset.cost.toNat < 4 ∧
      ({ idle with cost := 3 } : State).cost.toNat < 4) ∧
    (4 ≤ idle.cost.toNat ∧ ({ idle with klen := 0 } : State).klen.toNat = 0 ∧
      72 < ({ idle with klen := 73 } : State).klen.toNat ∧
      72 < ({ idle with klen := 127 } : State).klen.toNat) ∧
    State.reset.sv = false ∧ (∀ i, decode 0x00000000 ≠ .ok i) ∧
    errorCode .noState ≠ 0 := by
  refine ⟨?_, ?_, ?_, ?_, ?_⟩ <;> first
    | decide +kernel
    | (intro i; cases i <;> decide)

/-- `SetupCompletes`, `EncryptCompletes`, `HashCompletes`, `EngineStepCompletesTheCommand`. -/
theorem witness_running (i : Instr) :
    (running i).busy = true ∧ (running i).curOp = some i ∧ idle.busy = false := ⟨rfl, rfl, rfl⟩

/-- `CommandFrame` and `CommandsLeaveIgn`: a start, an error end, a completion, a lost write; and a
register of each kind the frame speaks of. -/
theorem witness_frame :
    (∃ t, exec .setup idle = .next t) ∧ (∃ t, exec .encrypt State.reset = .next t) ∧
    (∃ t, exec .hash (running .hash) = .next t) ∧ (∃ t, exec .setup (running .hash) = .next t) ∧
    (some Reg.cost ≠ some .status ∧ (∀ w, some Reg.cost = some (.hash w) → Instr.hash = .setup) ∧
      ∀ n, some Reg.cost = some (.pswin n) → Instr.hash = .encrypt) ∧
    (idle.busy = true → idle.curOp = some .setup) :=
  ⟨exec_next _ _, exec_next _ _, exec_next _ _, exec_next _ _, by simp, by simp [idle, State.reset]⟩

/-- `ReservedOffsetsReadZero`: the ends of each reserved range. -/
theorem witness_reserved :
    ([0x018, 0x01C, 0x030, 0x03C, 0x088, 0x09C, 0x0B8, 0x0BC, 0x0D8, 0xFFC, 0x2048, 0x3FFC].all
      fun off => decide (off < 0x4000) && decide (off % 4 = 0) && (regAt off).isNone) = true := by
  decide +kernel

/-- A platform with the window at 0x4000, which software 7 may not reach. -/
def plat (e : BusErrorEffect) : Platform :=
  { baseIndex := 1, busErrorEffect := e, irqLine := 0, denied := [7], ordered := false }

/-- `AccessesTheBlockDoesNotTake`: refused accesses at both ends of the window, addresses just outside,
and software the policy stops, for each parameter value. -/
theorem witness_refused (e : BusErrorEffect) :
    ((windowBase (plat e) ≤ 0x4000 ∧ 0x4000 < windowBase (plat e) + 0x4000) ∧ 2 ≠ 4) ∧
    ((windowBase (plat e) ≤ 0x7FFF ∧ 0x7FFF < windowBase (plat e) + 0x4000) ∧ 0x7FFF % 4 ≠ 0) ∧
    0x3FFC < windowBase (plat e) ∧ windowBase (plat e) + 0x4000 ≤ 0x8000 ∧
    admits (plat e) 7 = false ∧ (plat e).busErrorEffect = e := by
  cases e <;> decide

/-- `AdmittedSoftwareHasTheSameRights`, and the statements about an access by admitted software. -/
theorem witness_admitted :
    admits (plat .fault) 0 = true ∧ admits (plat .fault) 8 = true ∧
    admits idle.platform 0 = true ∧ admits State.reset.platform 0 = true := by decide

/-- `OvertakingOnlyReordersTheProgram`: on a platform that keeps the order and on one that does not,
where the second of two transactions comes first. -/
theorem witness_overtake :
    nextTurn { idle with sched := [.overtake 1] } = .overtake 1 ∧ idle.platform.ordered = true ∧
    (plat .fault).ordered = false ∧
    moveToFront 1 (issue 0 [.read 0 4 none, .write 4 4 1]) =
      issue 0 [.write 4 4 1, .read 0 4 none] := ⟨rfl, rfl, rfl, rfl⟩

/-- `ReadsReturnTheRegister` and `PswinShowsTheState`: both conditions, at the ends of P and S. -/
theorem witness_reads :
    State.reset.readsFree (some .status) = false ∧
    ({ idle with sv := true } : State).readsFree (some (.pswin 0)) = false ∧
    ((idle.busy = false ∧ ({ idle with sv := true } : State).sv = true) ∧
      ((0 : Fin 1042).val ≤ 17 ∧ (17 : Fin 1042).val ≤ 17) ∧
      18 ≤ (18 : Fin 1042).val ∧ 18 ≤ (1041 : Fin 1042).val) ∧
    ((running .encrypt).busy = true ∨ (running .encrypt).sv = false) ∧
    (State.reset.busy = true ∨ State.reset.sv = false) := by decide +kernel

/-- `ReadsHaveNoSideEffect`. -/
theorem witness_read_next : ∃ t, hostRead 0 0x008 4 none State.reset = .next t := ⟨_, rfl⟩

/-- `StatusWordLayout`: two different words that agree in bits 1 and 4. -/
theorem witness_status_words :
    (0x00000012 : Word).getLsbD 1 = (0xFFFFFFFF : Word).getLsbD 1 ∧
    (0x00000012 : Word).getLsbD 4 = (0xFFFFFFFF : Word).getLsbD 4 := by decide

/-- `InputWrites` and `ReadAfterWrite`. -/
theorem witness_writes :
    idle.busy = false ∧ ((running .hash).busy = true ∧ busyLocked (.key 17) = true) ∧
    (Reg.cost ≠ .cmd ∧ Reg.cost ≠ .status ∧ ∃ t, busWrite (some .cost) 4 idle = .next t) :=
  ⟨rfl, by decide +kernel, by decide, by decide, _, rfl⟩

/-- A statement that assembles to one accepted write of `v` to `r` is such a write at the head of the
program. -/
theorem headWrite_stmt {s : State} {r : Reg} {addr : Nat} {v : Word} {x : HostStmt}
    (hp : stmtOps s.platform x = [.write addr 4 v])
    (hc : route s.platform 0 addr 4 = .accepted (some r)) : (withStmt s x).headWrite r v :=
  ⟨0, addr, 4, [], congrArg (issue 0) hp, hc⟩

/-- `IgnIsSticky`: IGN rises, is set, and falls by a write and by reset. -/
theorem witness_ign :
    (∃ t, step (withStmt (running .hash) .setup) = .next t ∧
      ((running .hash).ign = false ∧ t.ign = true)) ∧
    ((running .hash).busy = true ∧ nextTurn (withStmt (running .hash) .setup) = .host ∧
      busyLocked .cmd = true ∧ (withStmt (running .hash) .setup).headWrite .cmd 1) ∧
    (∃ t, step (withStmt { idle with ign := true } .ack) = .next t ∧ t.ign = false) ∧
    (∃ t, step { idle with ign := true, sched := [.rst] } = .next t ∧ t.ign = false) := by
  refine ⟨?_, ⟨rfl, rfl, rfl, headWrite_stmt rfl rfl⟩, ?_, ?_⟩
  · obtain ⟨t, h, hp⟩ := exists_of_stepMeets (s := withStmt (running .hash) .setup) (p := State.ign)
      (by decide +kernel)
    exact ⟨t, h, rfl, hp⟩
  · obtain ⟨t, h, hp⟩ := exists_of_stepMeets (s := withStmt { idle with ign := true } .ack)
      (p := fun t => !t.ign) (by decide +kernel)
    exact ⟨t, h, by simpa using hp⟩
  · exact ⟨_, rfl, rfl⟩

/-- `DoneMarksCommandEnds`: DONE rises by a completion and by an error end, and falls by a write, by
an acceptance and by reset. -/
theorem witness_done :
    stepMeets (running .setup) State.done = true ∧
    stepMeets (withStmt State.reset .hash) State.done = true ∧
    stepMeets (withStmt { idle with done := true } .ack) (fun t => !t.done) = true ∧
    stepMeets (withStmt { idle with done := true } .hash) (fun t => !t.done) = true ∧
    stepMeets { idle with done := true, sched := [.rst] } (fun t => !t.done) = true := by
  decide +kernel

/-- `SvMarksAValidState`: SV rises at a completion, and falls at an acceptance and by reset. -/
theorem witness_sv :
    stepMeets (running .hash) State.sv = true ∧
    stepMeets (withStmt { idle with sv := true } .setup) (fun t => !t.sv) = true ∧
    stepMeets { idle with sv := true, sched := [.rst] } (fun t => !t.sv) = true := by decide +kernel

/-- `OnlySetupAndHashWriteBlowfish`, `ChecksumIsWrittenAtCompletion`, `OperandsAreStableWhileBusy`,
`InvariantKept`: a step from a state that meets the invariant, with a command running. -/
theorem witness_invariant :
    (running .hash).Inv ∧ (∃ t, step (running .hash) = .next t) ∧ (running .hash).busy = true ∧
    nextTurn (running .hash) ≠ .rst := by
  refine ⟨⟨?_, ?_, ?_, ?_, ?_⟩, ?_, rfl, by decide +kernel⟩
  · decide +kernel
  · decide +kernel
  · decide +kernel
  · decide +kernel
  · decide +kernel
  · obtain ⟨t, h, _⟩ := exists_of_stepMeets (s := running .hash) (p := fun _ => true)
      (by decide +kernel)
    exact ⟨t, h⟩

/-- `RunningCommandCompletes`: a schedule of host turns and a completion before a running HASH ends,
on a program with a write the busy lock refuses. -/
theorem witness_completes :
    let s : State := { withStmt (running .hash) (.wr (.key 0) 0) with sched := [.host, .sameCycle] }
    s.busy = true ∧ s.curOp = some .hash ∧ Turn.rst ∉ s.sched ∧ s.noBusFault := by
  refine ⟨rfl, rfl, by decide, fun _ => by decide⟩

/-- `SameCycleIsAnInterleaving`. -/
theorem witness_same_cycle :
    (running .hash).busy = true ∧ (withStmt (running .hash) .ack).headWrite .status 0x00000012 ∧
    busyLocked (.key 0) = true ∧
    (withStmt (running .hash) (.wr (.key 0) 7)).headWrite (.key 0) 7 :=
  ⟨rfl, headWrite_stmt rfl rfl, rfl, headWrite_stmt rfl rfl⟩

/-- `OnlyABusErrorStops`: a step that faults, and a program that cannot fault. -/
theorem witness_bus_fault :
    step (withStmt idle (.rd (.raw 0x00A))) = .fault .busError ∧
    (withStmt idle (.rd .id)).noBusFault := ⟨rfl, fun _ => by decide⟩

/-- `UnspecifiedStateIsInvisible`: two different states with SV = 0 and different P and S. -/
theorem witness_same_view :
    SameView idle { idle with bf := idle.bf.setP 0 1 } ∧
    idle ≠ { idle with bf := idle.bf.setP 0 1 } ∧ ∃ t, step idle = .next t := by
  refine ⟨⟨rfl, fun h => ?_⟩, fun h => ?_, ⟨_, rfl⟩⟩
  · exact absurd h (by decide +kernel)
  · exact absurd (congrArg (fun s : State => s.bf.pWord 0) h) (by decide +kernel)

/-- `ResetStepGivesTheResetValues`, while a command runs. -/
theorem witness_reset : nextTurn { running .hash with sched := [.rst] } = .rst := rfl

/-- `RepeatedKeyGivesTheSameStream`: vectors V7 and V7b. -/
theorem witness_repeated_key :
    1 ≤ 4 ∧ 4 ∣ 8 ∧ 8 ≤ 72 ∧
    ∀ j < 8, keyByte (keyOf 0x61626300 0x61626300 0) j
      = keyByte (keyOf 0x61626300 0x61626300 0) (j % 4) := by decide +kernel

/-- `ResultDependsOnTheOperandsOnly`: vectors V7 and V7c. -/
theorem witness_key_tail :
    let s : State := { running .hash with key := keyOf 0x61626300 0x55555555 0x55555555 }
    let s' : State := { running .hash with key := keyOf 0x61626300 0 0 }
    Instr.hash ≠ .encrypt ∧ s.busy = true ∧ s'.busy = true ∧ s.curOp = some .hash ∧
    s'.curOp = some .hash ∧ s.cost = s'.cost ∧ s.klen = s'.klen ∧ 1 ≤ s.klen.toNat ∧
    s.salt = s'.salt ∧ (∀ j < s.klen.toNat, keyByte s.key j = keyByte s'.key j) ∧
    (∃ t, exec .hash s = .next t) ∧ ∃ t, exec .hash s' = .next t :=
  ⟨by decide, rfl, rfl, rfl, rfl, rfl, rfl, by decide +kernel, rfl, by decide +kernel, exec_next _ _,
    exec_next _ _⟩

/-- `EncryptTwiceIsEncipher128` and `SetupThenEncryptIsHash`. -/
theorem witness_encrypt :
    ((running .encrypt).busy = true ∧ (running .encrypt).curOp = some .encrypt ∧
      (running .encrypt).sv = true) ∧
    idle.busy = false ∧ startsIn .hash idle ∧ idle.ctext = magic :=
  ⟨⟨rfl, rfl, rfl⟩, rfl, by unfold startsIn; decide +kernel, rfl⟩

/-- `PollRepeatsUntilItMatches`: the `wait` of R109. -/
theorem witness_poll :
    idle.readsFree (some .status) = false ∧
    (withStmt idle .wait).program =
      ⟨0, .poll (windowBase idle.platform + regOffset .status) 0x00000002 0x00000002⟩ :: [] :=
  ⟨rfl, rfl⟩

/-- `LdkeyLoadsTheKey`. -/
theorem witness_ldkey :
    let s : State := { idle with program := issue 0 (stmtOps idle.platform (.ldkey [0x61])) ++ [] }
    admits s.platform 0 = true ∧ s.busy = false ∧ s.sched = [] ∧
    s.program = issue 0 (stmtOps s.platform (.ldkey [0x61])) ++ [] := ⟨rfl, rfl, rfl, rfl⟩

end Sys2Proof.Machine.Tests
end

section
/-!
Proofs about the state, part 1: the shape of a step.

A step that goes on is a reset, or the host's part, which may be followed by the completion of the
command that ran before the step.  Each invariant then follows from what a reset, the host's part and a
completion do.
-/

namespace Sys2Proof.Machine

/-! ### The start and the end of a command, field by field -/

@[simp] theorem claimOf_done (i : Instr) (s : State) : (claimOf i s).done = s.done := by
  cases i <;> rfl
@[simp] theorem claimOf_ign (i : Instr) (s : State) : (claimOf i s).ign = s.ign := by
  cases i <;> rfl
@[simp] theorem claimOf_errcode (i : Instr) (s : State) : (claimOf i s).errcode = s.errcode := by
  cases i <;> rfl
@[simp] theorem claimOf_bf (i : Instr) (s : State) : (claimOf i s).bf = s.bf := by
  cases i <;> rfl
@[simp] theorem claimOf_hash (i : Instr) (s : State) : (claimOf i s).hash = s.hash := by
  cases i <;> rfl
@[simp] theorem claimOf_cost (i : Instr) (s : State) : (claimOf i s).cost = s.cost := by
  cases i <;> rfl
@[simp] theorem claimOf_klen (i : Instr) (s : State) : (claimOf i s).klen = s.klen := by
  cases i <;> rfl

/-- SETUP and HASH clear SV as they start, and ENCRYPT keeps it (R232). -/
theorem claimOf_sv (i : Instr) (s : State) :
    (claimOf i s).sv = if i = .encrypt then s.sv else false := by
  cases i <;> rfl

@[simp] theorem finishOf_ign (i : Instr) (s : State) : (finishOf i s).ign = s.ign := by
  cases i <;> rfl
@[simp] theorem finishOf_errcode (i : Instr) (s : State) : (finishOf i s).errcode = s.errcode := by
  cases i <;> rfl

/-- What a command leaves at its end is its expected result. -/
theorem finishOf_result (i : Instr) (s : State) :
    (finishOf i s).complete.result = expectedResult i s := by
  cases i <;> rfl

/-- An error end leaves a code that is not 0 (R26, R261). -/
theorem errorCode_ne_zero (e : CmdError) : errorCode e ≠ 0 := by
  cases e <;> decide

/-! ### The parts of a step -/

/-- What the host's turn, or a reordering of its program, makes of `s`: a change outside the block
only, or the effect of the accepted write at the head of the program. -/
inductive HostPart (s : State) : State → Prop where
  | quiet (n : Nat) (es : List Entry) (p : List Transaction) (q : List Turn) :
      HostPart s { s with draws := n, transcript := es, program := p, sched := q }
  | regWrite {r : Reg} {v : Word} (p : List Transaction) (q : List Turn) (hr : r ≠ .cmd)
      (hw : s.headWrite r v) :
      HostPart s (State.writeReg (some r) v { s with program := p, sched := q })
  | lost {v : Word} (p : List Transaction) (q : List Turn) (hw : s.headWrite .cmd v)
      (hb : s.busy = true) : HostPart s (State.ignoreWrite { s with program := p, sched := q })
  | errorEnd (e : CmdError) {v : Word} (p : List Transaction) (q : List Turn)
      (hw : s.headWrite .cmd v) (hb : s.busy = false) :
      HostPart s (State.clearResult { s with program := p, sched := q } |>.endWithError e)
  | start (i : Instr) {v : Word} (p : List Transaction) (q : List Turn)
      (hw : s.headWrite .cmd v) (hb : s.busy = false) (hc : checkOf i s = none) :
      HostPart s ((claimOf i (State.clearResult { s with program := p, sched := q })).start i)

/-- The completion of the running command makes `t` of `u`.  The first case is the one that the
invariant rules out (notes/assumptions/9). -/
inductive Completion (u : State) : State → Prop where
  | bare (hc : u.curOp = none) : Completion u u.complete
  | finish {i : Instr} (hc : u.curOp = some i) : Completion u (finishOf i u).complete

/-- An accepted write, with the transaction and the turn taken off, is a host's part. -/
theorem busWrite_hostPart {s t : State} {r : Reg} {v : Word} {p : List Transaction} {q : List Turn}
    (hw : s.headWrite r v)
    (h : busWrite (some r) v { s with program := p, sched := q } = .next t) : HostPart s t := by
  rcases busWrite_cases (some r) v { s with program := p, sched := q } with
    ⟨hr, e⟩ | ⟨hr, hb, e⟩ | ⟨hr, hb, i, _, e⟩ | ⟨hr, hb, _, e⟩ <;> rw [e] at h
  · cases h
    exact .regWrite p q (fun hc => hr (congrArg some hc)) hw
  · cases hr; cases h
    exact .lost p q hw hb
  · cases hr
    rw [exec_idle hb] at h
    have hcheck : checkOf i { s with program := p, sched := q } = checkOf i s := by cases i <;> rfl
    rcases accept_cases i (checkOf i) (claimOf i) { s with program := p, sched := q } with
      ⟨err, _, e⟩ | ⟨hc, e⟩ <;> rw [e] at h <;> cases h
    · exact .errorEnd err p q hw hb
    · exact .start i p q hw hb (hcheck ▸ hc)
  · cases hr; cases h
    exact .errorEnd .illegalCmd p q hw hb

/-- A host's turn that goes on is a host's part. -/
theorem hostTurn_hostPart {s t : State} {q : List Turn}
    (h : hostTurn { s with sched := q } = .next t) : HostPart s t := by
  cases hostTurn_effect h with
  | read n es p => exact .quiet n es p q
  | write who addr bytes r v p t hp hc h =>
    cases r with
    | none => cases h; exact .quiet s.draws s.transcript p q
    | some r => exact busWrite_hostPart ⟨who, addr, bytes, p, hp, hc⟩ h

/-- The engine's turn completes the running command, or leaves the state. -/
theorem engineTurn_completion {u t : State} (h : engineTurn u = .next t) :
    (u.busy = false ∧ t = u) ∨ (u.busy = true ∧ Completion u t) := by
  rcases engineTurn_cases u with ⟨hb, e⟩ | ⟨hb, hc, e⟩ | ⟨hb, i, hc, e⟩ <;> rw [e] at h <;> cases h
  · exact .inl ⟨hb, rfl⟩
  · exact .inr ⟨hb, .bare hc⟩
  · exact .inr ⟨hb, .finish hc⟩

/-- Taking a turn off the schedule alone is a host's part. -/
theorem hostPart_sched (s : State) (q : List Turn) : HostPart s { s with sched := q } :=
  .quiet s.draws s.transcript s.program q

/-- A running command still runs after the host's part. -/
theorem HostPart.busy_of_busy {s u : State} (h : HostPart s u) (hb : s.busy = true) :
    u.busy = true := by
  cases h with
  | quiet => exact hb
  | regWrite p q =>
    obtain ⟨⟨hbusy, -⟩, -⟩ := writeReg_frame _ _ _
    exact hbusy.trans hb
  | lost => exact hb
  | errorEnd _ _ _ _ hi => simp [hi] at hb
  | start _ _ _ _ hi => simp [hi] at hb

/-- All that a step which goes on can be: a reset, the host's part alone, or the host's part and then
the completion of the command that was running. -/
theorem step_parts {s t : State} (h : step s = .next t) :
    (nextTurn s = .rst ∧ t = State.resetStep { s with sched := s.sched.tail }) ∨
    HostPart s t ∨ (s.busy = true ∧ ∃ u, HostPart s u ∧ Completion u t) := by
  rcases step_cases h with hr | ⟨_, hh⟩ | ⟨_, he⟩ | ⟨_, hb, u, hu, he⟩ | ⟨k, _, rfl⟩
  · exact .inl hr
  · exact .inr (.inl (hostTurn_hostPart hh))
  · rcases engineTurn_completion he with ⟨_, rfl⟩ | ⟨hb, hc⟩
    · exact .inr (.inl (hostPart_sched s _))
    · exact .inr (.inr ⟨hb, _, hostPart_sched s _, hc⟩)
  · have hp := hostTurn_hostPart hu
    rcases engineTurn_completion he with ⟨hi, _⟩ | ⟨_, hc⟩
    · simp [hp.busy_of_busy hb] at hi
    · exact .inr (.inr ⟨hb, u, hp, hc⟩)
  · obtain ⟨p, hp⟩ := overtake_eq k { s with sched := s.sched.tail }
    rw [hp]
    exact .inr (.inl (.quiet s.draws s.transcript p s.sched.tail))

/-! ### What each part leaves unchanged -/

/-- The host writes neither P and S nor HASH (R236). -/
theorem HostPart.results_kept {s u : State} (h : HostPart s u) : u.bf = s.bf ∧ u.hash = s.hash := by
  cases h with
  | quiet => exact ⟨rfl, rfl⟩
  | regWrite p q =>
    obtain ⟨⟨-, -, -, hhash, hbf, -⟩, -⟩ := writeReg_frame _ _ _
    exact ⟨hbf, hhash⟩
  | lost => exact ⟨rfl, rfl⟩
  | errorEnd => exact ⟨rfl, rfl⟩
  | start => simp

/-- While a command runs, the host changes neither the command nor an operand of it (R73, R294). -/
theorem HostPart.command_kept {s u : State} (h : HostPart s u) (hb : s.busy = true) :
    u.curOp = s.curOp ∧ u.sv = s.sv ∧ u.cost = s.cost ∧ u.klen = s.klen ∧ u.salt = s.salt ∧
      u.key = s.key ∧ u.ctext = s.ctext := by
  cases h with
  | quiet => exact ⟨rfl, rfl, rfl, rfl, rfl, rfl, rfl⟩
  | regWrite p q =>
    obtain ⟨⟨-, hsv, -, -, -, hcur, -⟩, hin⟩ := writeReg_frame _ _ _
    exact ⟨hcur, hsv, hin hb⟩
  | lost => exact ⟨rfl, rfl, rfl, rfl, rfl, rfl, rfl⟩
  | errorEnd _ _ _ _ hi => simp [hi] at hb
  | start _ _ _ _ hi => simp [hi] at hb

/-- The end of every completion (R241): idle, DONE set, and IGN and ERRCODE as they were. -/
theorem Completion.flags {u t : State} (h : Completion u t) :
    t.busy = false ∧ t.curOp = none ∧ t.done = true ∧ t.ign = u.ign ∧ t.errcode = u.errcode := by
  cases h <;> simp

/-- A completion leaves the expected result of the running command; with no command it leaves what
stood there. -/
theorem Completion.result {u t : State} (h : Completion u t) :
    (u.curOp = none ∧ t.result = u.result) ∨
    ∃ i, u.curOp = some i ∧ t.result = expectedResult i u := by
  cases h with
  | bare hc => exact .inl ⟨hc, rfl⟩
  | finish hc => exact .inr ⟨_, hc, finishOf_result _ u⟩

/-- The expected result is a function of the results and the operands. -/
theorem expectedResult_congr {s u : State} (i : Instr) (hr : u.result = s.result)
    (hc : u.cost = s.cost) (hn : u.klen = s.klen) (hs : u.salt = s.salt) (hk : u.key = s.key)
    (hx : u.ctext = s.ctext) : expectedResult i u = expectedResult i s := by
  simp only [State.result, Result.mk.injEq] at hr
  obtain ⟨hbf, hhash, hsv⟩ := hr
  cases i <;> simp [expectedResult, hc, hn, hs, hk, hx, hbf, hhash, hsv]

/-- A completion after the host's part, in the state before the step: the command that ran is the one
that ends, with the result of the operands before the step. -/
theorem completion_result_of_hostPart {s u t : State} (hb : s.busy = true) (hp : HostPart s u)
    (hc : Completion u t) :
    (s.curOp = none ∧ t.result = s.result) ∨
    ∃ i, s.curOp = some i ∧ t.result = expectedResult i s := by
  obtain ⟨hbf, hhash⟩ := hp.results_kept
  obtain ⟨hcur, hsv, hcost, hklen, hsalt, hkey, hctext⟩ := hp.command_kept hb
  have hres : u.result = s.result := by simp [State.result, hbf, hhash, hsv]
  rw [← hcur, ← hres]
  rcases hc.result with h | ⟨i, hi, h⟩
  · exact .inl h
  · exact .inr ⟨i, hi, h.trans (expectedResult_congr i hres hcost hklen hsalt hkey hctext)⟩

end Sys2Proof.Machine
end

section
/-!
Proofs about the state, part 2: the invariants of the command state, of the status bits and of the
results, each over every step (R25, R27, R28, R37 to R39, R43).
-/

namespace Sys2Proof.Machine

/-! ### DONE and IGN under a register write -/

theorem lockedWrite_done (store : State → State) (s : State) :
    (s.lockedWrite store).done = if s.busy then s.done else (store s).done := by
  unfold State.lockedWrite
  split <;> rfl

theorem lockedWrite_ign (store : State → State) (s : State) :
    (s.lockedWrite store).ign = if s.busy then true else (store s).ign := by
  unfold State.lockedWrite
  split <;> rfl

/-- Among the register writes only that of STATUS changes DONE, and only by its bit 1 (R233). -/
theorem writeReg_done (r : Reg) (v : Word) (s : State) :
    (s.writeReg (some r) v).done = (s.done && !(decide (r = .status) && v.getLsbD 1)) := by
  cases r with
  | status => simp [State.writeReg, State.clearByOne]
  | id | cmd | ctrl | hash | pswin => simp [State.writeReg]
  | cost | klen | salt | key | ctext => simp [State.writeReg, lockedWrite_done]

/-- A busy-locked write sets IGN while a command runs (R28), and a STATUS write clears it by its
bit 4 (R233). -/
theorem writeReg_ign {r : Reg} (hr : r ≠ .cmd) (v : Word) (s : State) :
    (s.writeReg (some r) v).ign =
      (busyLocked r && s.busy || s.ign && !(decide (r = .status) && v.getLsbD 4)) := by
  cases r with
  | status => simp [State.writeReg, State.clearByOne, busyLocked]
  | cmd => exact absurd rfl hr
  | id | ctrl | hash | pswin => simp [State.writeReg, busyLocked]
  | cost | klen | salt | key | ctext =>
    cases h : s.busy <;> simp [State.writeReg, busyLocked, lockedWrite_ign, h]

/-! ### The invariant of the command state -/

/-- The invariant speaks of the command state, the status bits and the operands of a running command
alone, and it stays where DONE falls. -/
theorem State.Inv.congr {s t : State} (h : s.Inv) (hb : t.busy = s.busy)
    (hd : t.done = true → s.done = true) (hv : t.sv = s.sv) (he : t.errcode = s.errcode)
    (hc : t.curOp = s.curOp) (ho : s.busy = true → t.cost = s.cost ∧ t.klen = s.klen) : t.Inv where
  idle_iff := by rw [hc, hb]; exact h.idle_iff
  errcode_produced := he ▸ h.errcode_produced
  busy_clear := by
    rw [hb, he]
    intro hbusy
    obtain ⟨hdone, herr⟩ := h.busy_clear hbusy
    exact ⟨Bool.eq_false_iff.mpr fun ht => by simp [hd ht] at hdone, herr⟩
  key_schedule := by
    rw [hc, hv]
    intro hop
    have hbusy : s.busy = true := by
      by_contra hidle
      simp [h.idle_iff.mpr (Bool.eq_false_iff.mpr hidle)] at hop
    obtain ⟨hsv, hcheck⟩ := h.key_schedule hop
    obtain ⟨hcost, hklen⟩ := ho hbusy
    exact ⟨hsv, (operandCheck_congr hcost hklen).trans hcheck⟩
  encrypt_valid := by rw [hc, hv]; exact h.encrypt_valid

/-- An idle engine meets the invariant as soon as its error code is one that is produced (R261). -/
theorem State.Inv.of_idle {s : State} (hb : s.busy = false) (hc : s.curOp = none)
    (he : s.errcode.toNat ≤ 4) : s.Inv where
  idle_iff := by simp [hb, hc]
  errcode_produced := he
  busy_clear := by simp [hb]
  key_schedule := by simp [hc]
  encrypt_valid := by simp [hc]

/-- A command whose check passes starts with the invariant (R232, R266). -/
theorem State.Inv.of_start {i : Instr} {s : State} (hc : checkOf i s = none) (hd : s.done = false)
    (he : s.errcode = 0) : ((claimOf i s).start i).Inv where
  idle_iff := by simp
  errcode_produced := by simp [he]
  busy_clear := by simp [hd, he]
  key_schedule := by
    intro hop
    have hi : i ≠ .encrypt := by rintro rfl; simp at hop
    have hcheck : operandCheck s = none := by
      cases i with
      | encrypt => exact absurd rfl hi
      | setup | hash => exact hc
    exact ⟨by simp [claimOf_sv, hi], (operandCheck_congr (by simp) (by simp)).trans hcheck⟩
  encrypt_valid := by
    rintro ⟨⟩
    exact stateCheck_eq_none.mp hc

/-- The host's part of a step keeps the invariant. -/
theorem HostPart.inv {s u : State} (h : HostPart s u) (hs : s.Inv) : u.Inv := by
  cases h with
  | quiet => exact hs.congr rfl id rfl rfl rfl fun _ => ⟨rfl, rfl⟩
  | @regWrite r v p q =>
    obtain ⟨⟨hb, hv, he, -, -, hc, -⟩, hin⟩ :=
      writeReg_frame (some r) v { s with program := p, sched := q }
    refine hs.congr hb ?_ hv he hc fun hbusy => ?_
    · simp +contextual [writeReg_done]
    · obtain ⟨hcost, hklen, -⟩ := hin hbusy
      exact ⟨hcost, hklen⟩
  | lost => exact hs.congr rfl id rfl rfl rfl fun _ => ⟨rfl, rfl⟩
  | errorEnd e _ _ _ hb =>
    exact .of_idle hb (hs.idle_iff.mpr hb) (errorCode_range e).2
  | start i p q _ _ hc =>
    refine .of_start ?_ rfl rfl
    cases i <;> exact hc

/-- A completion keeps the invariant. -/
theorem Completion.inv {u t : State} (h : Completion u t) (hu : u.Inv) : t.Inv := by
  obtain ⟨hb, hc, -, -, he⟩ := h.flags
  exact .of_idle hb hc (he ▸ hu.errcode_produced)

/-- A reset step leaves the invariant, whatever the state before it. -/
theorem State.Inv.of_reset (s : State) : s.resetStep.Inv := .of_idle rfl rfl (by simp)

/-- Settles O36: a reset, the host's part of a step and a completion each keep the invariant. -/
theorem invariantKept : Obligations.InvariantKept := by
  intro s t hs h
  rcases step_parts h with ⟨-, rfl⟩ | hp | ⟨-, u, hp, hc⟩
  · exact .of_reset _
  · exact hp.inv hs
  · exact hc.inv (hp.inv hs)

/-- Settles O35: the state after reset is an idle engine without an error. -/
theorem invariantAtReset : Obligations.InvariantAtReset := .of_idle rfl rfl (by decide)

/-! ### DONE, SV and IGN -/

/-- DONE after the host's part: an error end sets it, a STATUS write and an acceptance clear it (R25). -/
theorem HostPart.done_cases {s u : State} (h : HostPart s u) :
    u.done = s.done ∨
    (u.done = true ∧ s.busy = false ∧ u.errcode ≠ 0 ∧ ∃ w, s.headWrite .cmd w) ∨
    (u.done = false ∧ ∃ v : Word, v.getLsbD 1 = true ∧ s.headWrite .status v) ∨
    (u.done = false ∧ s.busy = false ∧ u.busy = true ∧ ∃ w, s.headWrite .cmd w) := by
  cases h with
  | quiet => exact .inl rfl
  | @regWrite r v p q hr hw =>
    rw [writeReg_done]
    cases hclear : decide (r = .status) && v.getLsbD 1 with
    | false => exact .inl (by simp)
    | true =>
      simp only [Bool.and_eq_true, decide_eq_true_eq] at hclear
      obtain ⟨rfl, hv⟩ := hclear
      exact .inr (.inr (.inl ⟨by simp, v, hv, hw⟩))
  | lost => exact .inl rfl
  | errorEnd e p q hw hb => exact .inr (.inl ⟨rfl, hb, errorCode_ne_zero e, _, hw⟩)
  | start i p q hw hb => exact .inr (.inr (.inr ⟨by simp, hb, rfl, _, hw⟩))

/-- Settles O27: an error end is the host's part, and every other end is a completion. -/
theorem doneMarksCommandEnds : Obligations.DoneMarksCommandEnds := by
  intro s t h
  rcases step_parts h with ⟨hr, rfl⟩ | hp | ⟨hb, u, -, hc⟩
  · exact ⟨by simp, fun _ _ => .inl hr⟩
  · rcases hp.done_cases with hd | ⟨hd, hset⟩ | ⟨hd, hw⟩ | ⟨hd, hstart⟩
    · exact ⟨fun h0 h1 => by simp [hd, h0] at h1, fun h1 h0 => by simp [hd, h1] at h0⟩
    · exact ⟨fun _ _ => .inr hset, by simp [hd]⟩
    · exact ⟨by simp [hd], fun _ _ => .inr (.inl hw)⟩
    · exact ⟨by simp [hd], fun _ _ => .inr (.inr hstart)⟩
  · obtain ⟨hidle, -, hd, -⟩ := hc.flags
    exact ⟨fun _ _ => .inl ⟨hb, hidle⟩, by simp [hd]⟩

/-- SV after the host's part: only the start of SETUP or HASH changes it, and clears it (R27). -/
theorem HostPart.sv_cases {s u : State} (h : HostPart s u) :
    u.sv = s.sv ∨
    (u.sv = false ∧ s.busy = false ∧ u.busy = true ∧
      (u.curOp = some .setup ∨ u.curOp = some .hash)) := by
  cases h with
  | quiet => exact .inl rfl
  | @regWrite r v p q =>
    obtain ⟨⟨-, hsv, -⟩, -⟩ := writeReg_frame (some r) v { s with program := p, sched := q }
    exact .inl hsv
  | lost => exact .inl rfl
  | errorEnd => exact .inl rfl
  | start i p q hw hb =>
    cases i with
    | encrypt => exact .inl rfl
    | setup => exact .inr ⟨rfl, hb, rfl, .inl rfl⟩
    | hash => exact .inr ⟨rfl, hb, rfl, .inr rfl⟩

/-- What a completion after the host's part can leave, command by command (R241). -/
theorem completion_cases {s u t : State} (hb : s.busy = true) (hp : HostPart s u)
    (hc : Completion u t) :
    (t.bf = s.bf ∧ t.sv = s.sv ∧
      (t.hash = s.hash ∨ s.curOp = some .encrypt ∧ t.hash = encrypt64 s.bf s.ctext)) ∨
    (t.bf = eksSetup s.cost.toNat s.klen.toNat s.key s.salt ∧ t.sv = true ∧
      (s.curOp = some .setup ∧ t.hash = s.hash ∨
        s.curOp = some .hash ∧
          t.hash = bcryptChecksum s.cost.toNat s.klen.toNat s.key s.salt)) := by
  rcases completion_result_of_hostPart hb hp hc with ⟨-, hres⟩ | ⟨i, hi, hres⟩
  · simp only [State.result, Result.mk.injEq] at hres
    obtain ⟨hbf, hhash, hsv⟩ := hres
    exact .inl ⟨hbf, hsv, .inl hhash⟩
  · cases i <;> simp only [State.result, expectedResult, Result.mk.injEq] at hres <;>
      obtain ⟨hbf, hhash, hsv⟩ := hres
    · exact .inr ⟨hbf, hsv, .inl ⟨hi, hhash⟩⟩
    · exact .inl ⟨hbf, hsv, .inr ⟨hi, hhash⟩⟩
    · exact .inr ⟨hbf, hsv, .inr ⟨hi, hhash⟩⟩

/-- Settles O28: the host only clears SV, at a start, and a completion only sets it. -/
theorem svMarksAValidState : Obligations.SvMarksAValidState := by
  intro s t h
  rcases step_parts h with ⟨hr, rfl⟩ | hp | ⟨hb, u, hp, hc⟩
  · exact ⟨by simp, fun _ _ => .inl hr⟩
  · rcases hp.sv_cases with hsv | ⟨hsv, hstart⟩
    · exact ⟨fun h0 h1 => by simp [hsv, h0] at h1, fun h1 h0 => by simp [hsv, h1] at h0⟩
    · exact ⟨by simp [hsv], fun _ _ => .inr hstart⟩
  · obtain ⟨hidle, -⟩ := hc.flags
    rcases completion_cases hb hp hc with ⟨-, hsv, -⟩ | ⟨-, hsv, hop⟩
    · exact ⟨fun h0 h1 => by simp [hsv, h0] at h1, fun h1 h0 => by simp [hsv, h1] at h0⟩
    · exact ⟨fun _ _ => ⟨hb, hidle, hop.imp And.left And.left⟩, by simp [hsv]⟩

/-- IGN after the host's part: a busy-locked write sets it while a command runs, and a STATUS write
clears it (R28). -/
theorem HostPart.ign_cases {s u : State} (h : HostPart s u) :
    u.ign = s.ign ∨
    (u.ign = true ∧ s.busy = true ∧ ∃ r v, busyLocked r = true ∧ s.headWrite r v) ∨
    (u.ign = false ∧ ∃ v : Word, v.getLsbD 4 = true ∧ s.headWrite .status v) := by
  cases h with
  | quiet => exact .inl rfl
  | @regWrite r v p q hr hw =>
    rw [writeReg_ign hr]
    cases hset : busyLocked r && s.busy with
    | true =>
      simp only [Bool.and_eq_true] at hset
      obtain ⟨hl, hb⟩ := hset
      exact .inr (.inl ⟨by simp, hb, r, v, hl, hw⟩)
    | false =>
      cases hclear : decide (r = .status) && v.getLsbD 4 with
      | false => exact .inl (by simp)
      | true =>
        simp only [Bool.and_eq_true, decide_eq_true_eq] at hclear
        obtain ⟨rfl, hv⟩ := hclear
        exact .inr (.inr ⟨by simp, v, hv, hw⟩)
  | lost p q hw hb => exact .inr (.inl ⟨rfl, hb, .cmd, _, rfl, hw⟩)
  | errorEnd => exact .inl rfl
  | start => exact .inl (by simp)

/-- The turn of a host whose next transaction is an accepted write is that write. -/
theorem hostTurn_headWrite {s : State} {r : Reg} {v : Word} (hw : s.headWrite r v) :
    hostTurn s = busWrite (some r) v { s with program := s.program.tail } := by
  obtain ⟨who, addr, bytes, rest, hp, hroute⟩ := hw
  simp [hostTurn, hostWrite, hp, hroute]

/-- A busy-locked write while a command runs only sets IGN (R28, R230). -/
theorem busWrite_locked {r : Reg} {s : State} (v : Word) (hb : s.busy = true)
    (hl : busyLocked r = true) : busWrite (some r) v s = .next s.ignoreWrite := by
  cases r with
  | cmd => simp [busWrite, writeCmd, hb]
  | cost | klen | salt | key | ctext => simp [busWrite, State.writeReg, lockedWrite_busy hb]
  | id | status | ctrl | hash | pswin => simp [busyLocked] at hl

/-- The host's turn with a busy-locked write at the head of its program, while a command runs. -/
theorem hostTurn_locked {s : State} {r : Reg} {v : Word} (hb : s.busy = true)
    (hl : busyLocked r = true) (hw : s.headWrite r v) :
    hostTurn s = .next (State.ignoreWrite { s with program := s.program.tail }) :=
  (hostTurn_headWrite hw).trans (busWrite_locked v hb hl)

/-- A turn of both agents while a command runs is the host's turn and then the engine's (R242). -/
theorem sameCycleTurn_busy {s u : State} (hu : hostTurn s = .next u) (hb : s.busy = true) :
    sameCycleTurn s = engineTurn u := by
  simp [sameCycleTurn, hu, hb]

/-- In a host's turn, alone or with a completion, a busy-locked write leaves IGN = 1. -/
theorem ign_of_lockedWrite {s t : State} {r : Reg} {v : Word} (h : step s = .next t)
    (hb : s.busy = true) (hn : nextTurn s = .host ∨ nextTurn s = .sameCycle)
    (hl : busyLocked r = true) (hw : s.headWrite r v) : t.ign = true := by
  have hu := hostTurn_locked (s := { s with sched := s.sched.tail }) hb hl hw
  rcases hn with hn | hn <;> simp only [step, hn, takeTurn] at h
  · rw [hu] at h
    cases h
    rfl
  · rw [sameCycleTurn_busy hu hb] at h
    rcases engineTurn_completion h with ⟨-, rfl⟩ | ⟨-, hc⟩
    · rfl
    · obtain ⟨-, -, -, hign, -⟩ := hc.flags
      exact hign

/-- IGN after a step is 0 by reset, or what the host's part left. -/
theorem step_ign {s t : State} (h : step s = .next t) :
    (nextTurn s = .rst ∧ t.ign = false) ∨ ∃ u, HostPart s u ∧ t.ign = u.ign := by
  rcases step_parts h with ⟨hr, rfl⟩ | hp | ⟨-, u, hp, hc⟩
  · exact .inl ⟨hr, rfl⟩
  · exact .inr ⟨t, hp, rfl⟩
  · obtain ⟨-, -, -, hign, -⟩ := hc.flags
    exact .inr ⟨u, hp, hign⟩

/-- Settles O26: IGN changes by the host's part and by reset alone. -/
theorem ignIsSticky : Obligations.IgnIsSticky := by
  intro s t h
  refine ⟨fun h0 h1 => ?_, fun hb hn r v hl hw => ign_of_lockedWrite h hb hn hl hw,
    fun h1 h0 => ?_⟩
  all_goals rcases step_ign h with ⟨hr, ht⟩ | ⟨u, hp, ht⟩
  · simp [ht] at h1
  · rcases hp.ign_cases with hu | ⟨-, hset⟩ | ⟨hu, -⟩
    · simp [ht, hu, h0] at h1
    · exact hset
    · simp [ht, hu] at h1
  · exact .inl hr
  · rcases hp.ign_cases with hu | ⟨hu, -⟩ | ⟨-, hclear⟩
    · simp [ht, hu, h1] at h0
    · simp [ht, hu] at h0
    · exact .inr hclear

/-! ### The results -/

/-- Settles O29: the host's part leaves P and S, and a completion leaves them or expands the key. -/
theorem onlySetupAndHashWriteBlowfish : Obligations.OnlySetupAndHashWriteBlowfish := by
  intro s t h
  rcases step_parts h with ⟨hr, -⟩ | hp | ⟨hb, u, hp, hc⟩
  · exact .inr (.inl hr)
  · exact .inl hp.results_kept.1
  · obtain ⟨hidle, -⟩ := hc.flags
    rcases completion_cases hb hp hc with ⟨hbf, -⟩ | ⟨hbf, -, hop⟩
    · exact .inl hbf
    · exact .inr (.inr ⟨hb, hidle, hop.imp And.left And.left, hbf⟩)

/-- Settles O30: the host's part leaves HASH, and so do the completions but those of ENCRYPT and
HASH. -/
theorem checksumIsWrittenAtCompletion : Obligations.ChecksumIsWrittenAtCompletion := by
  intro s t h
  rcases step_parts h with ⟨hr, -⟩ | hp | ⟨hb, u, hp, hc⟩
  · exact .inr (.inl hr)
  · exact .inl hp.results_kept.2
  · obtain ⟨hidle, -⟩ := hc.flags
    rcases completion_cases hb hp hc with
      ⟨-, -, hhash | ⟨hop, hhash⟩⟩ | ⟨-, -, ⟨-, hhash⟩ | ⟨hop, hhash⟩⟩
    · exact .inl hhash
    · exact .inr (.inr (.inl ⟨hb, hidle, hop, hhash⟩))
    · exact .inl hhash
    · exact .inr (.inr (.inr ⟨hb, hidle, hop, hhash⟩))

end Sys2Proof.Machine
end

section
/-!
Proofs about the state, part 3: what the host's turn does not read.

The host's turn reads neither the schedule nor the hidden state, and P and S only while the window is
open.  So it commutes with replacing them, which gives the agreement of R242's two orders and the
invisibility of the unspecified state (R40, R44, R290).
-/

namespace Sys2Proof.Machine

/-- `s` with another P and S, hidden state and schedule. -/
def State.unread (bf : Blowfish) (hidden : Hidden) (sched : List Turn) (s : State) : State :=
  { s with bf := bf, hidden := hidden, sched := sched }

/-- An outcome with its next state changed by `f`. -/
def mapNext (f : State → State) :
    Host.Outcome State Fault Refusal → Host.Outcome State Fault Refusal
  | .next t => .next (f t)
  | .fault e => .fault e
  | .refused e => .refused e

@[simp] theorem mapNext_next (f : State → State) (t : State) : mapNext f (.next t) = .next (f t) := rfl
@[simp] theorem mapNext_fault (f : State → State) (e : Fault) : mapNext f (.fault e) = .fault e := rfl
@[simp] theorem mapNext_refused (f : State → State) (e : Refusal) :
    mapNext f (.refused e) = .refused e := rfl

section
variable {bf : Blowfish} {hidden : Hidden} {sched : List Turn} {s : State}

@[simp] theorem State.unread_busy : (s.unread bf hidden sched).busy = s.busy := rfl
@[simp] theorem State.unread_platform : (s.unread bf hidden sched).platform = s.platform := rfl
@[simp] theorem State.unread_program : (s.unread bf hidden sched).program = s.program := rfl

/-- A read of a register, where P and S are replaced only while the window is closed. -/
theorem readReg_unread (h : s.windowOpen = true → bf = s.bf) (r : Option Reg) :
    (s.unread bf hidden sched).readReg r =
      ((s.readReg r).1, (s.readReg r).2.unread bf hidden sched) := by
  have hfree : (s.unread bf hidden sched).readsFree r = s.readsFree r := rfl
  unfold State.readReg
  rw [hfree]
  cases hr : s.readsFree r with
  | true => rfl
  | false =>
    suffices hword : (s.unread bf hidden sched).regWord r = s.regWord r by simp [hword]
    cases r with
    | none => rfl
    | some r =>
      cases r with
      | pswin n =>
        have hopen : s.windowOpen = true := by simpa [State.readsFree] using hr
        exact congrArg (fun b : Blowfish => b.window n) (h hopen)
      | _ => rfl

/-- A read access. -/
theorem readReply_unread (h : s.windowOpen = true → bf = s.bf) (who addr bytes : Nat) :
    readReply who addr bytes (s.unread bf hidden sched) =
      (readReply who addr bytes s).map fun x => (x.1, x.2.unread bf hidden sched) := by
  unfold readReply
  rw [State.unread_platform]
  split
  · simp [readReg_unread h]
  all_goals split <;> rfl

/-- A read transaction. -/
theorem hostRead_unread (h : s.windowOpen = true → bf = s.bf) (who addr bytes : Nat)
    (e : Option Word) :
    hostRead who addr bytes e (s.unread bf hidden sched) =
      mapNext (State.unread bf hidden sched) (hostRead who addr bytes e s) := by
  unfold hostRead
  rw [readReply_unread h]
  cases readReply who addr bytes s <;> rfl

/-- One read of a `poll`. -/
theorem hostPoll_unread (h : s.windowOpen = true → bf = s.bf) (who addr : Nat) (m v : Word)
    (rest : List Transaction) :
    hostPoll who addr m v rest (s.unread bf hidden sched) =
      mapNext (State.unread bf hidden sched) (hostPoll who addr m v rest s) := by
  unfold hostPoll
  rw [readReply_unread h]
  cases readReply who addr 4 s with
  | none => rfl
  | some x =>
    simp only [Option.map_some, mapNext_next]
    split <;> rfl

/-- The acceptance of a command. -/
theorem accept_unread (i : Instr) :
    (s.unread bf hidden sched).accept i (checkOf i) (claimOf i) =
      (s.accept i (checkOf i) (claimOf i)).unread bf hidden sched := by
  have hcheck : checkOf i (s.unread bf hidden sched) = checkOf i s := by cases i <;> rfl
  unfold State.accept
  rw [hcheck]
  cases checkOf i s with
  | some e => rfl
  | none => cases i <;> rfl

/-- A busy-locked write, of a register whose store keeps what is replaced. -/
theorem lockedWrite_unread {store : State → State}
    (h : store (s.unread bf hidden sched) = (store s).unread bf hidden sched) :
    (s.unread bf hidden sched).lockedWrite store = (s.lockedWrite store).unread bf hidden sched := by
  unfold State.lockedWrite
  rw [State.unread_busy, h]
  split <;> rfl

/-- A write of a register other than CMD. -/
theorem writeReg_unread (r : Option Reg) (v : Word) :
    (s.unread bf hidden sched).writeReg r v = (s.writeReg r v).unread bf hidden sched := by
  cases r with
  | none => rfl
  | some r =>
    cases r with
    | cost | klen | salt | key | ctext => exact lockedWrite_unread rfl
    | _ => rfl

/-- An accepted write. -/
theorem busWrite_unread (r : Option Reg) (v : Word) :
    busWrite r v (s.unread bf hidden sched) =
      mapNext (State.unread bf hidden sched) (busWrite r v s) := by
  unfold busWrite writeCmd
  rw [State.unread_busy]
  split
  · split
    · rfl
    · rename_i hb
      have hidle : s.busy = false := by simpa using hb
      split
      · rw [exec_idle hidle, exec_idle (by exact hidle), accept_unread]; rfl
      · rfl
  · rw [writeReg_unread]; rfl

/-- A write transaction. -/
theorem hostWrite_unread (who addr bytes : Nat) (v : Word) :
    hostWrite who addr bytes v (s.unread bf hidden sched) =
      mapNext (State.unread bf hidden sched) (hostWrite who addr bytes v s) := by
  unfold hostWrite
  rw [State.unread_platform]
  split
  · exact busWrite_unread _ v
  all_goals split <;> rfl

/-- The host's turn reads neither the schedule nor the hidden state, and P and S only while the window
is open. -/
theorem hostTurn_unread (h : s.windowOpen = true → bf = s.bf) :
    hostTurn (s.unread bf hidden sched) = mapNext (State.unread bf hidden sched) (hostTurn s) := by
  unfold hostTurn
  rw [State.unread_program]
  split
  · rfl
  · rename_i rest _
    exact hostWrite_unread (s := { s with program := rest }) _ _ _ _
  · rename_i rest _
    exact hostRead_unread (s := { s with program := rest }) h _ _ _ _
  · exact hostPoll_unread h _ _ _ _ _

end

/-- The host's turn leaves what it does not read, and P and S. -/
theorem hostTurn_keeps_unread {s u : State} (h : hostTurn s = .next u) :
    u.bf = s.bf ∧ u.hidden = s.hidden ∧ u.sched = s.sched := by
  have hself := hostTurn_unread (s := s) (bf := s.bf) (hidden := s.hidden) (sched := s.sched)
    fun _ => rfl
  have hu : u = u.unread s.bf s.hidden s.sched := by
    simpa [h] using (show hostTurn s = _ from hself)
  exact ⟨(congrArg State.bf hu :), (congrArg State.hidden hu :), (congrArg State.sched hu :)⟩

/-! ### A transaction and a completion in one clock cycle -/

/-- A turn at the head of the schedule is the next step. -/
theorem step_sched_cons (k : Turn) (q : List Turn) (s : State) :
    step { s with sched := k :: q } = takeTurn k { s with sched := q } := rfl

/-- A schedule of two turns takes the first, and the second where the first goes on. -/
theorem runSteps_two (s : State) :
    runSteps 2 s = match step s with
      | .next t => step t
      | stop => stop := by
  simp only [runSteps]
  cases step s with
  | next t => cases h : step t <;> simp [h]
  | fault | refused => rfl

/-- The host's turn under another schedule. -/
theorem hostTurn_sched (q : List Turn) (s : State) :
    hostTurn { s with sched := q } = mapNext (fun u => { u with sched := q }) (hostTurn s) := by
  have h := hostTurn_unread (s := s) (bf := s.bf) (hidden := s.hidden) (sched := q) fun _ => rfl
  rw [show hostTurn { s with sched := q } = _ from h]
  cases hu : hostTurn s with
  | next u =>
    obtain ⟨hbf, hhidden, -⟩ := hostTurn_keeps_unread hu
    simp [State.unread, ← hbf, ← hhidden]
  | fault | refused => rfl

/-- A turn of both agents at an idle engine is the host's turn (R298). -/
theorem sameCycleTurn_idle {s u : State} (hu : hostTurn s = .next u) (hb : s.busy = false) :
    sameCycleTurn s = .next u := by
  simp [sameCycleTurn, hu, hb]

/-- A turn of both agents that goes on: the host's turn, and a completion if a command ran before. -/
theorem sameCycleTurn_cases {s t : State} (h : sameCycleTurn s = .next t) :
    ∃ u, hostTurn s = .next u ∧
      ((s.busy = false ∧ t = u) ∨ (s.busy = true ∧ engineTurn u = .next t)) := by
  cases hu : hostTurn s with
  | next u =>
    cases hb : s.busy with
    | false => exact ⟨u, rfl, .inl ⟨rfl, by simpa [sameCycleTurn_idle hu hb] using h.symm⟩⟩
    | true => exact ⟨u, rfl, .inr ⟨rfl, by rwa [sameCycleTurn_busy hu hb] at h⟩⟩
  | fault | refused => simp [sameCycleTurn, hu] at h

/-- While a command runs, the turn of both agents is the host's turn and then the engine's (R242). -/
theorem sameCycle_eq_host_engine (s : State) (q : List Turn) (hb : s.busy = true) :
    step { s with sched := .sameCycle :: q } =
      runSteps 2 { s with sched := .host :: .engine :: q } := by
  have hq := hostTurn_sched q s
  have he := hostTurn_sched (.engine :: q) s
  rw [runSteps_two, step_sched_cons, step_sched_cons]
  cases hu : hostTurn s <;> rw [hu] at hq he <;> simp only [takeTurn, sameCycleTurn, hq, he]
  case next u =>
    exact (if_pos hb).trans (step_sched_cons .engine q u).symm
  all_goals rfl

/-- The engine's turn at an idle engine changes nothing (R240). -/
theorem engineTurn_idle {u : State} (hb : u.busy = false) : engineTurn u = .next u := by
  simp [engineTurn, hb]

/-- The engine's turn with no command to complete (notes/assumptions/9). -/
theorem engineTurn_bare {u : State} (hb : u.busy = true) (hc : u.curOp = none) :
    engineTurn u = .next u.complete := by
  simp [engineTurn, hb, hc]

/-- The engine's turn while a command runs is the execution of that command (R241). -/
theorem engineTurn_exec {u : State} {i : Instr} (hb : u.busy = true) (hc : u.curOp = some i) :
    engineTurn u = exec i u := by
  simp [engineTurn, hb, hc]

/-- While a command runs, the engine's turn ends it. -/
theorem engineTurn_running {u : State} {i : Instr} (hb : u.busy = true) (hc : u.curOp = some i) :
    engineTurn u = .next (finishOf i u).complete :=
  (engineTurn_exec hb hc).trans (exec_running hb hc)

/-- While a command runs, the engine's turn is its completion. -/
theorem engineTurn_completes {u : State} (hb : u.busy = true) :
    ∃ t, engineTurn u = .next t ∧ Completion u t := by
  rcases engineTurn_cases u with ⟨hidle, -⟩ | ⟨-, hc, h⟩ | ⟨-, i, hc, h⟩
  · simp [hb] at hidle
  · exact ⟨_, h, .bare hc⟩
  · exact ⟨_, h, .finish hc⟩

/-- A completion leaves the operands (R241). -/
theorem Completion.operands {u t : State} (h : Completion u t) :
    t.cost = u.cost ∧ t.klen = u.klen ∧ t.salt = u.salt ∧ t.key = u.key ∧ t.ctext = u.ctext := by
  cases h with
  | bare => exact ⟨rfl, rfl, rfl, rfl, rfl⟩
  | @finish i => cases i <;> exact ⟨rfl, rfl, rfl, rfl, rfl⟩

/-- A transaction that goes on, in the cycle of a completion: the command completes after it. -/
theorem sameCycle_completes {s u : State} {q : List Turn} (hb : s.busy = true)
    (hu : hostTurn { s with sched := q } = .next u) :
    ∃ t, step { s with sched := .sameCycle :: q } = .next t ∧ Completion u t := by
  obtain ⟨t, ht, hc⟩ := engineTurn_completes ((hostTurn_hostPart hu).busy_of_busy hb)
  exact ⟨t, (sameCycleTurn_busy hu hb).trans ht, hc⟩

/-- Settles O33: the two orders agree because the host's turn does not read the schedule, and the
completion that follows a write sets DONE and leaves IGN and the operands. -/
theorem sameCycleIsAnInterleaving : Obligations.SameCycleIsAnInterleaving := by
  intro s q hb
  refine ⟨sameCycle_eq_host_engine s q hb, fun v hw => ?_, fun r v hl hw => ?_⟩
  · have hu := hostTurn_headWrite (s := { s with sched := q }) hw
    obtain ⟨t, ht, hc⟩ := sameCycle_completes hb hu
    obtain ⟨-, -, hdone, -⟩ := hc.flags
    exact ⟨t, ht, hdone⟩
  · have hu := hostTurn_locked (s := { s with sched := q }) hb hl hw
    obtain ⟨t, ht, hc⟩ := sameCycle_completes hb hu
    obtain ⟨hidle, -, -, hign, -⟩ := hc.flags
    exact ⟨t, ht, hign, hidle, hc.operands⟩

/-! ### The unspecified state -/

/-- A state is indistinguishable from itself with another hidden state, and another P and S where
these can be neither seen nor used. -/
theorem SameView.of_unread {t : State} {bf : Blowfish} {hidden : Hidden}
    (h : t.sv = true ∨ t.curOp = some .encrypt → bf = t.bf) :
    SameView t (t.unread bf hidden t.sched) := ⟨rfl, h⟩

/-- A state that no host can tell from `s` is `s` with another P and S and hidden state. -/
theorem SameView.exists_unread {s s' : State} (h : SameView s s') :
    ∃ bf hidden, s' = s.unread bf hidden s.sched ∧
      (s.sv = true ∨ s.curOp = some .encrypt → bf = s.bf) :=
  ⟨s'.bf, s'.hidden, h⟩

/-- A state is indistinguishable from itself. -/
theorem SameView.refl (t : State) : SameView t t := ⟨rfl, fun _ => rfl⟩

/-- P and S can be seen or used after the host's part only where they could be before it: ENCRYPT
starts in a valid state (R204). -/
theorem HostPart.visible_before {s u : State} (h : HostPart s u)
    (hu : u.sv = true ∨ u.curOp = some .encrypt) : s.sv = true ∨ s.curOp = some .encrypt := by
  cases h with
  | quiet => exact hu
  | @regWrite r v p q =>
    obtain ⟨⟨-, hsv, -, -, -, hcur, -⟩, -⟩ :=
      writeReg_frame (some r) v { s with program := p, sched := q }
    rwa [hsv, hcur] at hu
  | lost => exact hu
  | errorEnd => exact hu
  | start i p q _ _ hc =>
    cases i with
    | encrypt => exact .inl (stateCheck_eq_none.mp hc)
    | setup | hash => simp [claimOf_sv] at hu

section
variable {s t : State} {bf : Blowfish} {hidden : Hidden}
  (hview : s.sv = true ∨ s.curOp = some .encrypt → bf = s.bf)
include hview

/-- The host's turn from two states that no host can tell apart. -/
theorem hostTurn_sameView (h : hostTurn s = .next t) :
    hostTurn (s.unread bf hidden s.sched) = .next (t.unread bf hidden t.sched) ∧
      (t.sv = true ∨ t.curOp = some .encrypt → bf = t.bf) := by
  have hopen : s.windowOpen = true → bf = s.bf := fun ho => hview (.inl (by
    simp only [State.windowOpen, Bool.and_eq_true] at ho; exact ho.2))
  obtain ⟨hbf, -, hsched⟩ := hostTurn_keeps_unread h
  refine ⟨by simp [hostTurn_unread hopen, h, hsched], fun ht => ?_⟩
  exact hbf ▸ hview ((hostTurn_hostPart (s := s) h).visible_before ht)

/-- A command ends in the same state: SETUP and HASH replace P and S, and ENCRYPT reads a P and S that
are the same. -/
theorem complete_finishOf_unread {i : Instr} (hi : s.curOp = some i) :
    (finishOf i (s.unread bf hidden s.sched)).complete = (finishOf i s).complete := by
  cases i with
  | encrypt => obtain rfl := hview (.inr hi); rfl
  | setup | hash => rfl

/-- The engine's turn from two states that no host can tell apart. -/
theorem engineTurn_sameView (h : engineTurn s = .next t) :
    ∃ t', engineTurn (s.unread bf hidden s.sched) = .next t' ∧ SameView t t' := by
  rcases engineTurn_cases s with ⟨hb, e⟩ | ⟨hb, hc, e⟩ | ⟨hb, i, hc, e⟩ <;> rw [e] at h <;> cases h
  · exact ⟨_, engineTurn_idle hb, .of_unread hview⟩
  · exact ⟨_, engineTurn_bare hb hc, .of_unread (bf := bf) (hidden := freeHidden s.draws)
      fun hv => hview (hv.imp_right (by simp))⟩
  · have h' := engineTurn_running (u := s.unread bf hidden s.sched) hb hc
    rw [complete_finishOf_unread hview hc] at h'
    exact ⟨_, h', .refl _⟩

end

/-- Overtaking reads the platform and the program alone. -/
theorem overtake_unread (k : Nat) (s : State) (bf : Blowfish) (hidden : Hidden) (q : List Turn) :
    (s.unread bf hidden q).overtake k = (s.overtake k).unread bf hidden q := by
  unfold State.overtake
  rw [State.unread_platform]
  split <;> rfl

/-- The same turn from two states that no host can tell apart leads to two such states. -/
theorem takeTurn_sameView {s s' t : State} {k : Turn} (hv : SameView s s')
    (h : takeTurn k s = .next t) : ∃ t', takeTurn k s' = .next t' ∧ SameView t t' := by
  obtain ⟨bf, hidden, rfl, hview⟩ := hv.exists_unread
  cases k with
  | host =>
    obtain ⟨h', ht⟩ := hostTurn_sameView hview h
    exact ⟨_, h', .of_unread ht⟩
  | engine => exact engineTurn_sameView hview h
  | sameCycle =>
    obtain ⟨u, hu, hend⟩ := sameCycleTurn_cases h
    obtain ⟨hu', hview'⟩ := hostTurn_sameView hview hu
    rcases hend with ⟨hb, rfl⟩ | ⟨hb, ht⟩
    · exact ⟨_, sameCycleTurn_idle hu' hb, .of_unread hview'⟩
    · obtain ⟨t', ht', hsame⟩ := engineTurn_sameView hview' ht
      exact ⟨t', (sameCycleTurn_busy hu' hb).trans ht', hsame⟩
  | rst => cases h; exact ⟨_, rfl, .refl _⟩
  | overtake k =>
    cases h
    refine ⟨_, congrArg Host.Outcome.next (overtake_unread k s bf hidden s.sched), ?_⟩
    obtain ⟨p, hp⟩ := overtake_eq k s
    rw [hp]
    exact .of_unread (t := { s with program := p }) hview

/-- Settles O37: the host's turn commutes with replacing what it does not read, and a completion
replaces P and S or reads them where they agree. -/
theorem unspecifiedStateIsInvisible : Obligations.UnspecifiedStateIsInvisible := by
  intro s s' t hv h
  obtain ⟨bf, hidden, rfl, hview⟩ := hv.exists_unread
  have hv' := SameView.of_unread (t := { s with sched := s.sched.tail }) (hidden := hidden) hview
  obtain ⟨t', h', hsame⟩ := takeTurn_sameView hv' h
  exact ⟨t', h', hsame, (congrArg State.transcript hsame.1 :)⟩

end Sys2Proof.Machine
end

section
/-!
Proofs about the state, part 4: the register window, the words a host reads, the commands and their
operands, and reset (R21, R30, R35, R40, R47).
-/

namespace Sys2Proof.Machine

/-! ### The address map -/

/-- A word inside a group selects its index. -/
theorem groupIndex_add {base n : Nat} (w : Fin n) : groupIndex base n (base + w) = some w := by
  simp [groupIndex]

/-- A word outside a group selects nothing there. -/
theorem groupIndex_eq_none {base n word : Nat} (h : word < base ∨ base + n ≤ word) :
    groupIndex base n word = none := by
  unfold groupIndex
  rw [dif_neg (by omega)]

/-- Past the single registers, an offset selects by the groups of the table (R21). -/
theorem regAt_group {off : Nat} (h : 6 ≤ off / 4) :
    regAt off = ((groupIndex (0x020 / 4) 4 (off / 4)).map .salt
      <|> (groupIndex (0x040 / 4) 18 (off / 4)).map .key
      <|> (groupIndex (0x0A0 / 4) 6 (off / 4)).map .ctext
      <|> (groupIndex (0x0C0 / 4) 6 (off / 4)).map .hash
      <|> (groupIndex (0x1000 / 4) 1042 (off / 4)).map .pswin) := by
  simp (disch := omega) only [regAt, if_neg]

/-- Each register's offset selects it (R62). -/
theorem regAt_regOffset (r : Reg) : regAt (regOffset r) = some r := by
  cases r with
  | id | cmd | status | ctrl | cost | klen => rfl
  | salt w | key w | ctext w | hash w | pswin w =>
    simp (disch := omega) only [regOffset, regAt_group, Nat.add_mul_div_left, groupIndex_add,
      groupIndex_eq_none]
    rfl

/-- Each register's offset is aligned and lies in the window (R21). -/
theorem regOffset_aligned (r : Reg) : regOffset r % 4 = 0 ∧ regOffset r < 0x4000 := by
  cases r with
  | salt w | key w | ctext w | hash w | pswin w => simp only [regOffset]; omega
  | _ => decide

/-- An aligned 32-bit access at a register's offset reaches it, from any admitted software. -/
theorem route_register {p : Platform} {who : Nat} (h : admits p who = true) (r : Reg) :
    route p who (windowBase p + regOffset r) 4 = .accepted (some r) := by
  rw [route_admitted h, claim_offset p (regOffset_aligned r), regAt_regOffset]

/-- A 32-bit write of admitted software at a register's offset is the write of that register. -/
theorem hostWrite_register {s : State} {who : Nat} (h : admits s.platform who = true) (r : Reg)
    (v : Word) :
    hostWrite who (windowBase s.platform + regOffset r) 4 v s = busWrite (some r) v s := by
  simp [hostWrite, route_register h]

/-- A 32-bit read of admitted software at a register's offset answers that register. -/
theorem hostRead_register {s : State} {who : Nat} (h : admits s.platform who = true) (r : Reg)
    (e : Option Word) :
    hostRead who (windowBase s.platform + regOffset r) 4 e s =
      .next (State.record { addr := windowBase s.platform + regOffset r
                            reply := .data (s.readReg (some r)).1, expect := e }
        (s.readReg (some r)).2) := by
  simp [hostRead, readReply, route_register h]

/-- Settles O14: every clause of the table is the round trip of its register. -/
theorem addressMapRoundTrip : Obligations.AddressMapRoundTrip := by
  refine ⟨⟨rfl, rfl, rfl, rfl, rfl, rfl, fun w => regAt_regOffset (.salt w),
    fun w => regAt_regOffset (.key w), fun w => regAt_regOffset (.ctext w),
    fun w => regAt_regOffset (.hash w), fun n => regAt_regOffset (.pswin n),
    regAt_regOffset (.salt 3), regAt_regOffset (.key 17), regAt_regOffset (.ctext 5),
    regAt_regOffset (.hash 5), regAt_regOffset (.pswin 17), regAt_regOffset (.pswin 18),
    regAt_regOffset (.pswin 1041)⟩, fun r => ?_⟩
  obtain ⟨halign, hlt⟩ := regOffset_aligned r
  refine ⟨halign, hlt, regAt_regOffset r, fun p => ?_, fun s who v h => hostWrite_register h r v⟩
  rw [claim_offset p ⟨halign, hlt⟩, regAt_regOffset]

/-! ### The words a host reads -/

theorem window_p (bf : Blowfish) (n : Fin 1042) (h : n.val ≤ 17) :
    bf.window n = bf.p[n.val]'(by omega) := by
  simp [Blowfish.window, Blowfish.pWord, show n.val < 18 by omega, Vector.get_eq_getElem]

theorem window_s (bf : Blowfish) (n : Fin 1042) (h : 18 ≤ n.val) :
    bf.window n = (bf.s[(n.val - 18) / 256]'(by omega))[(n.val - 18) % 256]'(by omega) := by
  simp [Blowfish.window, Blowfish.sWord, show ¬ n.val < 18 by omega, Vector.get_eq_getElem]

/-- A read of PSWIN while the window is open. -/
theorem readReg_pswin_open {s : State} (hb : s.busy = false) (hv : s.sv = true) (n : Fin 1042) :
    s.readReg (some (.pswin n)) = (s.bf.window n, s) := by
  simp [State.readReg, State.readsFree, State.windowOpen, State.regWord, hb, hv]

/-- A read of PSWIN while the window is closed. -/
theorem readReg_pswin_closed {s : State} (h : s.busy = true ∨ s.sv = false) (n : Fin 1042) :
    s.readReg (some (.pswin n)) = (Config.draw s.draws, { s with draws := s.draws + 1 }) := by
  have hclosed : s.windowOpen = false := by
    rcases h with h | h <;> simp [State.windowOpen, h]
  simp [State.readReg, State.readsFree, hclosed]

/-- Settles O18: the read reaches PSWIN[n], which answers as the window is open or closed. -/
theorem pswinShowsTheState : Obligations.PswinShowsTheState := by
  intro s who n e hadm
  have hread := hostRead_register hadm (.pswin n) e
  simp only [regOffset] at hread
  refine ⟨fun hb hv => ⟨fun h => ?_, fun h => ?_⟩, fun hclosed => ?_⟩
  · rw [hread, readReg_pswin_open hb hv, window_p _ _ h]
  · rw [hread, readReg_pswin_open hb hv, window_s _ _ h]
  · rw [hread, readReg_pswin_closed hclosed]

/-- Bit `i` of a STATUS read, field by field from bit 0 up (R30). -/
theorem statusWord_getLsbD (s : State) (i : Nat) : s.statusWord.getLsbD i =
    if i < 1 then s.busy
    else if i < 2 then s.done
    else if i < 3 then s.err
    else if i < 4 then s.sv
    else if i < 5 then s.ign
    else if i < 8 then false
    else if i < 12 then s.errcode.getLsbD (i - 8)
    else false := by
  have hbool (b : Bool) (k : Nat) : (BitVec.ofBool b).getLsbD k = if k < 1 then b else false := by
    cases b <;> simp
  unfold State.statusWord
  change BitVec.getLsbD (w := 20 + 4 + 3 + 1 + 1 + 1 + 1 + 1) _ i = _
  simp only [BitVec.getLsbD_append, BitVec.getLsbD_zero, hbool]
  match i with
  | 0 | 1 | 2 | 3 | 4 => simp
  | j + 5 =>
    simp (disch := omega) only [if_neg]
    by_cases h3 : j < 3
    · simp (disch := omega) only [if_pos]
    · simp (disch := omega) only [if_neg]
      by_cases h7 : j < 7
      · simp (disch := omega) only [if_pos]
        rfl
      · simp (disch := omega) only [if_neg]

/-- A write to STATUS clears by one (R233). -/
theorem busWrite_status (v : Word) (s : State) :
    busWrite (some .status) v s = .next (s.clearByOne v) := rfl

/-- Settles O20: each field of the word stands at its bits, and the write reads two bits of the word. -/
theorem statusWordLayout : Obligations.StatusWordLayout := by
  refine ⟨fun s => ?_, fun s v v' hdone hign => ?_⟩
  · have hbit := statusWord_getLsbD s
    simp only [State.regWord]
    refine ⟨hbit 0, hbit 1, ?_, hbit 3, hbit 4, ?_, ?_, ?_⟩
    · rw [hbit 2]; simp [State.err]
    · ext i hi
      rw [BitVec.getElem_extractLsb', hbit]
      simp (disch := omega) only [if_neg, if_pos]
      exact (BitVec.getElem_zero hi).symm
    · ext i hi
      rw [BitVec.getElem_extractLsb', hbit]
      simp (disch := omega) only [if_neg, if_pos, Nat.add_sub_cancel_left, BitVec.getLsbD_eq_getElem]
    · ext i hi
      rw [BitVec.getElem_extractLsb', hbit]
      simp (disch := omega) only [if_neg]
      exact (BitVec.getElem_zero hi).symm
  · rw [busWrite_status, busWrite_status, State.clearByOne, State.clearByOne, hdone, hign]

/-! ### Execution of the decoded command -/

/-- Settles O5: the host's turn is the accepted write, and the engine's turn the running command. -/
theorem stepRunsTheDecodedInstruction : Obligations.StepRunsTheDecodedInstruction := by
  refine ⟨fun s i w who addr bytes rest hn hp hroute hb hd => ?_, fun s i hn hb hc => ?_⟩
  · have hw : State.headWrite { s with sched := s.sched.tail } .cmd w :=
      ⟨who, addr, bytes, rest, hp, hroute⟩
    simp only [step, hn, takeTurn]
    rw [hostTurn_headWrite hw]
    simp [busWrite, writeCmd, hb, hd, hp]
  · simp only [step, hn, takeTurn]
    exact engineTurn_exec hb hc

/-- Settles O13: neither an acceptance nor a completion writes IGN. -/
theorem commandsLeaveIgn : Obligations.CommandsLeaveIgn := by
  intro i s t hrun h
  rcases exec_cases i s with ⟨-, e⟩ | ⟨-, -, e⟩ | ⟨hb, hc, -⟩
  · rw [e] at h
    rcases accept_cases i (checkOf i) (claimOf i) s with ⟨_, -, e⟩ | ⟨-, e⟩ <;> rw [e] at h <;> cases h
    · rfl
    · simp
  · rw [e] at h; cases h
    simp
  · exact absurd (hrun hb) hc

/-- The key stream reads the first `n` key bytes alone (R134). -/
theorem keyWord_congr {key key' : Vector Word 18} {n : Nat} (hn : 1 ≤ n)
    (h : ∀ j < n, keyByte key j = keyByte key' j) : keyWord key n = keyWord key' n := by
  have hmod : ∀ j, keyByte key (j % n) = keyByte key' (j % n) := fun j => h _ (Nat.mod_lt j hn)
  funext i
  simp [keyWord, cyclicWord, hmod]

/-- EksSetup reads the first `n` key bytes alone (R35, R164). -/
theorem eksSetup_congr {key key' : Vector Word 18} {n : Nat} (c : Nat) (salt : Vector Word 4)
    (hn : 1 ≤ n) (h : ∀ j < n, keyByte key j = keyByte key' j) :
    eksSetup c n key salt = eksSetup c n key' salt := by
  unfold eksSetup
  rw [keyWord_congr hn h]

/-- Settles O45: what SETUP and HASH leave is EksSetup of the operands, and for HASH the checksum of
that. -/
theorem resultDependsOnTheOperandsOnly : Obligations.ResultDependsOnTheOperandsOnly := by
  intro i s s' t t' hi hb hb' hc hc' hcost hklen hlen hsalt hkey h h'
  rw [exec_running hb hc] at h
  rw [exec_running hb' hc'] at h'
  cases h; cases h'
  have heks : eksSetup s.cost.toNat s.klen.toNat s.key s.salt =
      eksSetup s'.cost.toNat s'.klen.toNat s'.key s'.salt := by
    rw [eksSetup_congr _ _ hlen hkey, hcost, hklen, hsalt]
  cases i with
  | encrypt => exact absurd rfl hi
  | setup => simp [finishOf, heks]
  | hash => simp [finishOf, heks]

/-! ### Reset -/

/-- The reset values show (R47), whatever P, S, the hidden state and what is not the block's hold. -/
theorem resetValues_of_reset (bf : Blowfish) (hidden : Hidden) (platform : Platform)
    (program : List Transaction) (sched : List Turn) (transcript : List Entry) (draws : Nat) :
    ResetValues { State.reset with
      bf := bf, hidden := hidden, platform := platform, program := program, sched := sched
      transcript := transcript, draws := draws } := by
  refine ⟨rfl, ?status, ?ctrl, ?cost, ?klen, fun w => ?salt, fun w => ?key, rfl, fun w => ?hash,
    fun _ => rfl, rfl, rfl⟩
  case status => simp [State.regWord, State.statusWord, State.err, State.reset]
  case ctrl => simp [State.regWord, State.ctrlWord, State.reset]
  case cost => simp [State.regWord, State.costWord, State.reset]
  case klen => simp [State.regWord, State.klenWord, State.reset]
  case salt | key | hash => simp [State.regWord, State.reset, Vector.get_eq_getElem]

/-- Settles O38: the reset step puts each field to its reset value, in every state. -/
theorem resetStepGivesTheResetValues : Obligations.ResetStepGivesTheResetValues := by
  intro s hn
  have hstep : step s = .next (State.resetStep { s with sched := s.sched.tail }) := by
    simp only [step, hn, takeTurn]
  exact ⟨_, hstep, resetValues_of_reset .., rfl, rfl, rfl, rfl, rfl, rfl⟩

/-- Settles O39: the state after reset shows the reset values and its flags are 0. -/
theorem resetStateHasTheResetValues : Obligations.ResetStateHasTheResetValues :=
  ⟨resetValues_of_reset .., rfl, rfl, rfl, rfl, rfl, rfl⟩

end Sys2Proof.Machine
end

section
/-!
Proofs about memory, part 1: accesses of the window, reads, writes, and the packing of bytes (R61 to
R69, R72).
-/

namespace Sys2Proof.Machine

/-! ### Byte packing -/

/-- A byte of a stream, in range, is its byte of the word that holds it (R66). -/
theorem streamByte_eq {n : Nat} (ws : Vector Word n) {j : Nat} (h : j / 4 < n) :
    streamByte ws j = ws[j / 4].extractLsb' (24 - 8 * (j % 4)) 8 := by
  simp [streamByte, wordByte, List.getD_eq_getElem?_getD, h]

/-- Settles O42: all four streams are packed by the same rule. -/
theorem bytesArePackedBigEndian : Obligations.BytesArePackedBigEndian :=
  ⟨fun key _ => streamByte_eq key _, fun salt _ => streamByte_eq salt _,
    fun hash _ => streamByte_eq hash _, fun ctext _ => streamByte_eq ctext _⟩

/-! ### Reserved offsets -/

/-- A group of registers selects nothing exactly outside its words. -/
theorem groupIndex_eq_none_iff {base n word : Nat} :
    groupIndex base n word = none ↔ word < base ∨ base + n ≤ word := by
  refine ⟨fun h => ?_, groupIndex_eq_none⟩
  unfold groupIndex at h
  split at h
  · cases h
  · omega

/-- The single registers fill the first six words (R21). -/
theorem regAt_ne_none {off : Nat} (h : off / 4 < 6) : regAt off ≠ none := by
  unfold regAt
  interval_cases off / 4 <;> simp

/-- A reserved offset lies past the single registers and outside every group (R63). -/
theorem regAt_eq_none_iff {off : Nat} :
    regAt off = none ↔
      6 ≤ off / 4 ∧ (off / 4 < 8 ∨ 12 ≤ off / 4) ∧ (off / 4 < 16 ∨ 34 ≤ off / 4) ∧
      (off / 4 < 40 ∨ 46 ≤ off / 4) ∧ (off / 4 < 48 ∨ 54 ≤ off / 4) ∧
      (off / 4 < 1024 ∨ 2066 ≤ off / 4) := by
  by_cases h : 6 ≤ off / 4
  · simp [regAt_group h, groupIndex_eq_none_iff, h]
  · simp [regAt_ne_none (Nat.not_le.mp h), h]

/-- An aligned 32-bit access of admitted software at a reserved offset reaches no register, and is
accepted (R63). -/
theorem route_reserved {p : Platform} {who off : Nat} (h : admits p who = true)
    (hoff : off % 4 = 0 ∧ off < 0x4000) (hr : regAt off = none) :
    route p who (windowBase p + off) 4 = .accepted none := by
  rw [route_admitted h, claim_offset p hoff, hr]

/-- Settles O15: outside the groups of the address map an offset selects nothing, and the register
that is nothing reads 0 and keeps no write. -/
theorem reservedOffsetsReadZero : Obligations.ReservedOffsetsReadZero := by
  refine ⟨fun off hlt halign => ?_, fun s who off v e hadm hlt halign hr => ?_⟩
  · rw [regAt_eq_none_iff]
    omega
  · have hroute := route_reserved hadm ⟨halign, hlt⟩ hr
    exact ⟨by simp [hostRead, readReply, hroute, State.readReg, State.readsFree, State.regWord],
      by simp [hostWrite, hroute, busWrite, State.writeReg]⟩

/-! ### Accesses the block does not take -/

/-- An access outside the window is not the block's (R61). -/
theorem claim_outside {p : Platform} {addr : Nat} (bytes : Nat)
    (h : addr < windowBase p ∨ windowBase p + 0x4000 ≤ addr) : claim p addr bytes = .unclaimed := by
  unfold claim windowSize
  rw [if_neg (by omega)]

/-- The access is taken neither by a register nor by a reserved offset. -/
def Untaken (p : Platform) (who addr bytes : Nat) : Prop := ∀ r, route p who addr bytes ≠ .accepted r

/-- An access the block takes is an aligned 32-bit access inside the window, by software that the
policy admits (R61, R64, R65, R274). -/
theorem taken_access {p : Platform} {who addr bytes : Nat} {r : Option Reg}
    (h : route p who addr bytes = .accepted r) :
    bytes = 4 ∧ addr % 4 = 0 ∧ windowBase p ≤ addr ∧ addr < windowBase p + 0x4000 ∧
      admits p who = true := by
  unfold route claim windowBase windowSize at h
  unfold windowBase
  split at h
  · split at h
    · simp only at h
      split at h
      · rename_i hadm hin hal
        exact ⟨hal.1, by omega, hin.1, hin.2, hadm⟩
      · cases h
    · cases h
  · cases h

/-- What the platform makes of an access that is not taken: the host's program faults, or the host
receives the error response, or the access is dropped (R65, R268). -/
theorem untaken_access {s : State} {who addr bytes : Nat} (h : Untaken s.platform who addr bytes)
    (v : Word) (e : Option Word) :
    (s.platform.busErrorEffect = .fault →
      hostRead who addr bytes e s = .fault .busError ∧
      hostWrite who addr bytes v s = .fault .busError) ∧
    (s.platform.busErrorEffect = .respond →
      hostRead who addr bytes e s =
        .next (s.record { addr := addr, reply := .busError, expect := e }) ∧
      hostWrite who addr bytes v s =
        .next (s.record { addr := addr, reply := .busError, expect := none })) ∧
    (s.platform.busErrorEffect = .drop →
      hostRead who addr bytes e s =
        .next (s.record { addr := addr, reply := .data 0, expect := e }) ∧
      hostWrite who addr bytes v s = .next s) := by
  unfold hostRead hostWrite readReply
  cases hr : route s.platform who addr bytes with
  | accepted r => exact absurd hr (h r)
  | refused | unclaimed =>
    exact ⟨fun he => by simp [he], fun he => by simp [he], fun he => by simp [he]⟩

/-- Settles O16: such an access is not taken. -/
theorem accessesTheBlockDoesNotTake : Obligations.AccessesTheBlockDoesNotTake := by
  intro s who addr bytes v e
  refine ⟨claim_outside bytes, fun h => untaken_access (fun r hr => ?_) v e⟩
  obtain ⟨hbytes, halign, hlow, hhigh, hadm⟩ := taken_access hr
  rcases h with h | h | h | h | h
  · exact h hbytes
  · exact h halign
  · omega
  · omega
  · simp [h] at hadm

/-! ### Reads -/

/-- Settles O19: the registers do not show the counter of free values and the transcript. -/
theorem readsHaveNoSideEffect : Obligations.ReadsHaveNoSideEffect := by
  intro s t who addr bytes e h
  unfold hostRead at h
  cases hr : readReply who addr bytes s with
  | none => simp [hr] at h
  | some x =>
    obtain ⟨n, hn⟩ := readReply_state hr
    rw [hr] at h
    cases h
    rw [hn]
    exact ⟨⟨n, _, rfl⟩, fun _ => ⟨rfl, rfl⟩⟩

/-! ### Reads after writes -/

/-- A write of one word leaves the others. -/
theorem get_set_of_ne {n : Nat} (ws : Vector Word n) {w w' : Fin n} (v : Word) (h : w' ≠ w) :
    (ws.set w.val v w.isLt).get w' = ws.get w' := by
  simp [Vector.get_eq_getElem, Vector.getElem_set_ne, Fin.val_ne_of_ne h.symm]

/-- A write to an idle engine shows in no register but the one that is written (R72): the word of any
other register does not read the field, or reads another word of its group. -/
theorem regWord_writeReg_of_ne {s : State} {r : Reg} {r' : Option Reg} (v : Word)
    (hb : s.busy = false) (hs : r ≠ .status) (h : r' ≠ some r) :
    (s.writeReg (some r) v).regWord r' = s.regWord r' := by
  cases r with
  | status => exact absurd rfl hs
  | id | cmd | hash | pswin => rfl
  | ctrl | cost | klen =>
    simp only [State.writeReg, lockedWrite_idle hb]
    cases r' with
    | none => rfl
    | some r' => cases r' <;> first | rfl | exact absurd rfl h
  | salt w | key w | ctext w =>
    simp only [State.writeReg, lockedWrite_idle hb]
    cases r' with
    | none => rfl
    | some r' => cases r' <;> first | rfl | exact get_set_of_ne _ v (fun hw => h (hw ▸ rfl))

/-- The low `k` bits of a word under zeros are the word masked to them (R31 to R33). -/
theorem zero_append_low {k : Nat} (m : Nat) (v : Word) :
    (0#m ++ v.extractLsb' 0 k).toNat = v.toNat &&& (2 ^ k - 1) := by
  simp [BitVec.toNat_append, Nat.and_two_pow_sub_one_eq_mod]

/-- Bit 0 of a word as a field of one bit. -/
theorem ofBool_getLsbD_zero (v : Word) : BitVec.ofBool (v.getLsbD 0) = v.extractLsb' 0 1 := by
  ext i hi
  obtain rfl : i = 0 := by omega
  simp

/-- CTRL keeps bit 0 of the word that is written (R31). -/
theorem ctrlWord_setCtrl (v : Word) (s : State) : (s.setCtrl v).ctrlWord = v &&& 0x00000001 := by
  rw [State.ctrlWord, State.setCtrl_ie, ofBool_getLsbD_zero]
  exact BitVec.eq_of_toNat_eq (zero_append_low 31 v)

/-- COST keeps bits 4 to 0 of the word that is written (R32). -/
theorem costWord_setCost (v : Word) (s : State) : (s.setCost v).costWord = v &&& 0x0000001F :=
  BitVec.eq_of_toNat_eq (zero_append_low 27 v)

/-- KLEN keeps bits 6 to 0 of the word that is written (R33). -/
theorem klenWord_setKlen (v : Word) (s : State) : (s.setKlen v).klenWord = v &&& 0x0000007F :=
  BitVec.eq_of_toNat_eq (zero_append_low 25 v)

/-- Settles O25: the accepted write is the write of the register, which keeps the bits of its field. -/
theorem readAfterWrite : Obligations.ReadAfterWrite := by
  intro s t r v hb hcmd hs h
  have hw : s.writeReg (some r) v = t := by simpa [busWrite, hcmd] using h
  subst hw
  refine ⟨fun r' hr => regWord_writeReg_of_ne v hb hs hr, ?_⟩
  cases r with
  | cmd => exact absurd rfl hcmd
  | status => exact absurd rfl hs
  | id | hash | pswin => rfl
  | ctrl => exact ctrlWord_setCtrl v s
  | cost => simp [State.writeReg, lockedWrite_idle hb, State.regWord, costWord_setCost]
  | klen => simp [State.writeReg, lockedWrite_idle hb, State.regWord, klenWord_setKlen]
  | salt | key | ctext =>
    simp [State.writeReg, lockedWrite_idle hb, State.regWord, Vector.get_eq_getElem]

end Sys2Proof.Machine
end

section
/-!
Proofs about memory, part 2: what a step keeps of the host's side, when it stops, and the end of a
running command (R68, R72 to R74, R240 to R243, R268).
-/

namespace Sys2Proof.Machine

/-! ### Overtaking -/

/-- Where the platform keeps the order, overtaking changes nothing (R72, R74). -/
theorem overtake_ordered {s : State} (k : Nat) (h : s.platform.ordered = true) :
    s.overtake k = s := by
  simp [State.overtake, h]

/-- Overtaking changes at most the order of the pending transactions. -/
theorem overtake_perm (k : Nat) (s : State) :
    ∃ p, s.overtake k = { s with program := p } ∧ p.Perm s.program := by
  cases h : s.platform.ordered with
  | true => exact ⟨s.program, overtake_ordered k h, .refl _⟩
  | false => exact ⟨_, by simp [State.overtake, h], moveToFront_perm k s.program⟩

/-- Settles O56: the step is the overtaking, once the turn is off the schedule. -/
theorem overtakingOnlyReordersTheProgram : Obligations.OvertakingOnlyReordersTheProgram := by
  intro s k hn
  have hstep : step s = .next (State.overtake k { s with sched := s.sched.tail }) := by
    simp only [step, hn, takeTurn]
  rw [hstep]
  refine ⟨fun h => congrArg _ (overtake_ordered k h), ?_⟩
  obtain ⟨p, hp, hperm⟩ := overtake_perm k { s with sched := s.sched.tail }
  exact ⟨p, congrArg _ hp, hperm⟩

/-! ### What a turn keeps of the host's side -/

/-- From `s` to `t` the platform stays, and no transaction is added to the program. -/
structure HostSideKept (s t : State) : Prop where
  platform : t.platform = s.platform
  program : t.program ⊆ s.program

/-- The same platform and the same program are the host's side kept. -/
theorem HostSideKept.of_eq {s t : State} (hp : t.platform = s.platform)
    (hq : t.program = s.program) : HostSideKept s t := ⟨hp, by simp [hq]⟩

/-- The host's side is kept over two parts of a step. -/
theorem HostSideKept.trans {s t u : State} (h : HostSideKept s t) (h' : HostSideKept t u) :
    HostSideKept s u :=
  ⟨h'.platform.trans h.platform, List.Subset.trans h'.program h.program⟩

/-- Taking the first transaction off the program keeps the host's side. -/
theorem HostSideKept.of_cons {s t : State} {tx : Transaction} {rest : List Transaction}
    (hp : s.program = tx :: rest) (h : HostSideKept { s with program := rest } t) :
    HostSideKept s t :=
  ⟨h.platform, fun _ hx => hp ▸ List.mem_cons_of_mem _ (h.program hx)⟩

/-- A program that cannot fault still cannot. -/
theorem HostSideKept.noBusFault {s t : State} (h : HostSideKept s t) (hs : s.noBusFault) :
    t.noBusFault := by
  intro he tx htx
  rw [h.platform] at he ⊢
  exact hs he tx (h.program htx)

/-- A command keeps the host's side, at its acceptance and at its completion. -/
theorem exec_hostSideKept {i : Instr} {s t : State} (h : exec i s = .next t) :
    HostSideKept s t := by
  rcases exec_cases i s with ⟨-, e⟩ | ⟨-, -, e⟩ | ⟨-, -, e⟩ <;> rw [e] at h <;> cases h
  · rcases accept_cases i (checkOf i) (claimOf i) s with ⟨_, -, e⟩ | ⟨-, e⟩ <;> rw [e]
    · exact .of_eq rfl rfl
    · cases i <;> exact .of_eq rfl rfl
  · cases i <;> exact .of_eq rfl rfl
  · exact .of_eq rfl rfl

/-- An accepted write goes on, and keeps the host's side. -/
theorem busWrite_next (r : Option Reg) (v : Word) (s : State) :
    ∃ t, busWrite r v s = .next t ∧ HostSideKept s t := by
  rcases busWrite_cases r v s with ⟨-, e⟩ | ⟨-, -, e⟩ | ⟨-, -, i, -, e⟩ | ⟨-, -, -, e⟩
  · obtain ⟨⟨-, -, -, -, -, -, -, hplatform, hprogram, -⟩, -⟩ := writeReg_frame r v s
    exact ⟨_, e, .of_eq hplatform hprogram⟩
  · exact ⟨_, e, .of_eq rfl rfl⟩
  · obtain ⟨t, ht⟩ := exec_next i s
    exact ⟨t, e.trans ht, exec_hostSideKept ht⟩
  · exact ⟨_, e, .of_eq rfl rfl⟩

/-- The engine's turn goes on, and keeps the host's side. -/
theorem engineTurn_next (s : State) : ∃ t, engineTurn s = .next t ∧ HostSideKept s t := by
  rcases engineTurn_cases s with ⟨-, e⟩ | ⟨-, -, e⟩ | ⟨-, i, -, e⟩
  · exact ⟨_, e, .of_eq rfl rfl⟩
  · exact ⟨_, e, .of_eq rfl rfl⟩
  · exact ⟨_, e, by cases i <;> exact .of_eq rfl rfl⟩

/-! ### When a turn stops -/

/-- The transaction is refused, and the platform makes that a fault of the host's program (R268). -/
def Faults (p : Platform) (tx : Transaction) : Prop :=
  p.busErrorEffect = .fault ∧ opRefused p tx = true

/-- The next transaction of the host's program faults. -/
def State.HeadFaults (s : State) : Prop :=
  ∃ tx rest, s.program = tx :: rest ∧ Faults s.platform tx

/-- `out` is a next state that keeps the host's side of `s`, or a bus error, for which `stop` holds. -/
def GoesOnUnless (stop : Prop) (s : State) (out : Host.Outcome State Fault Refusal) : Prop :=
  (∃ t, out = .next t ∧ HostSideKept s t) ∨ (out = .fault .busError ∧ stop)

/-- A transaction at the head of the program, carried out with the rest as the program. -/
theorem GoesOnUnless.of_cons {s : State} {tx : Transaction} {rest : List Transaction}
    {out : Host.Outcome State Fault Refusal} (hp : s.program = tx :: rest)
    (h : GoesOnUnless (Faults s.platform tx) { s with program := rest } out) :
    GoesOnUnless s.HeadFaults s out :=
  h.imp (fun ⟨t, ht, hk⟩ => ⟨t, ht, hk.of_cons hp⟩) (fun ⟨ht, hf⟩ => ⟨ht, tx, rest, hp, hf⟩)

/-- A program that cannot fault has no faulting transaction at its head. -/
theorem State.noBusFault.not_headFaults {s : State} (h : s.noBusFault) : ¬ s.HeadFaults := by
  rintro ⟨tx, rest, hp, he, hr⟩
  simp [h he tx (by simp [hp])] at hr

/-- A transaction whose access is not taken is refused. -/
theorem opRefused_of_untaken {p : Platform} {tx : Transaction}
    (h : Untaken p tx.issuer (opTarget tx.op).1 (opTarget tx.op).2) : opRefused p tx = true := by
  unfold opRefused
  cases hr : route p tx.issuer (opTarget tx.op).1 (opTarget tx.op).2 with
  | accepted r => exact absurd hr (h r)
  | refused | unclaimed => rfl

/-- A read access without an answer is not taken, on a platform where that is a fault. -/
theorem readReply_eq_none {who addr bytes : Nat} {s : State}
    (h : readReply who addr bytes s = none) :
    s.platform.busErrorEffect = .fault ∧ Untaken s.platform who addr bytes := by
  unfold readReply at h
  cases hr : route s.platform who addr bytes with
  | accepted r => simp [hr] at h
  | refused | unclaimed =>
    cases he : s.platform.busErrorEffect with
    | fault => exact ⟨rfl, fun r => by simp [hr]⟩
    | respond | drop => simp [hr, he] at h

/-- A write transaction goes on unless it faults. -/
theorem hostWrite_goesOn (who addr bytes : Nat) (v : Word) (s : State) :
    GoesOnUnless (Faults s.platform ⟨who, .write addr bytes v⟩) s
      (hostWrite who addr bytes v s) := by
  by_cases hr : ∃ r, route s.platform who addr bytes = .accepted r
  · obtain ⟨r, hr⟩ := hr
    obtain ⟨t, ht, hk⟩ := busWrite_next r v s
    exact .inl ⟨t, by simpa [hostWrite, hr] using ht, hk⟩
  · have hun : Untaken s.platform who addr bytes := not_exists.mp hr
    obtain ⟨hfault, hrespond, hdrop⟩ := untaken_access hun v none
    cases he : s.platform.busErrorEffect with
    | fault => exact .inr ⟨(hfault he).2, he, opRefused_of_untaken hun⟩
    | respond => exact .inl ⟨_, (hrespond he).2, .of_eq rfl rfl⟩
    | drop => exact .inl ⟨_, (hdrop he).2, .of_eq rfl rfl⟩

/-- A read transaction goes on unless it faults. -/
theorem hostRead_goesOn (who addr bytes : Nat) (e : Option Word) (s : State) :
    GoesOnUnless (Faults s.platform ⟨who, .read addr bytes e⟩) s (hostRead who addr bytes e s) := by
  unfold hostRead
  cases hr : readReply who addr bytes s with
  | none =>
    obtain ⟨he, hun⟩ := readReply_eq_none hr
    exact .inr ⟨rfl, he, opRefused_of_untaken hun⟩
  | some x =>
    obtain ⟨n, hn⟩ := readReply_state hr
    exact .inl ⟨_, rfl, by rw [hn]; exact .of_eq rfl rfl⟩

/-- A `poll` stays at the head of the program, or leaves it when it ends. -/
theorem hostPoll_goesOn {who addr : Nat} {m v : Word} {rest : List Transaction} {s : State}
    (hp : s.program = ⟨who, .poll addr m v⟩ :: rest) :
    GoesOnUnless s.HeadFaults s (hostPoll who addr m v rest s) := by
  unfold hostPoll
  cases hr : readReply who addr 4 s with
  | none =>
    obtain ⟨he, hun⟩ := readReply_eq_none hr
    exact .inr ⟨rfl, _, _, hp, he, opRefused_of_untaken hun⟩
  | some x =>
    obtain ⟨n, hn⟩ := readReply_state hr
    refine .inl ⟨_, rfl, ?_⟩
    rw [hn]
    split
    · exact .of_cons hp (.of_eq rfl rfl)
    · exact .of_eq rfl rfl

/-- The host's turn goes on unless the transaction at the head of its program faults. -/
theorem hostTurn_goesOn (s : State) : GoesOnUnless s.HeadFaults s (hostTurn s) := by
  unfold hostTurn
  split
  · exact .inl ⟨s, rfl, .of_eq rfl rfl⟩
  · exact .of_cons ‹_› (hostWrite_goesOn ..)
  · exact .of_cons ‹_› (hostRead_goesOn ..)
  · exact hostPoll_goesOn ‹_›

/-- A turn of both agents goes on where the host's does: the engine stops nothing. -/
theorem sameCycleTurn_goesOn (s : State) : GoesOnUnless s.HeadFaults s (sameCycleTurn s) := by
  rcases hostTurn_goesOn s with ⟨u, hu, hk⟩ | ⟨hu, hf⟩
  · cases hb : s.busy with
    | false => exact .inl ⟨u, sameCycleTurn_idle hu hb, hk⟩
    | true =>
      obtain ⟨t, ht, hk'⟩ := engineTurn_next u
      exact .inl ⟨t, (sameCycleTurn_busy hu hb).trans ht, hk.trans hk'⟩
  · exact .inr ⟨by simp [sameCycleTurn, hu], hf⟩

/-- Every turn goes on unless the transaction at the head of the program faults. -/
theorem takeTurn_goesOn (k : Turn) (s : State) : GoesOnUnless s.HeadFaults s (takeTurn k s) := by
  cases k with
  | host => exact hostTurn_goesOn s
  | engine => exact .inl (engineTurn_next s)
  | sameCycle => exact sameCycleTurn_goesOn s
  | rst => exact .inl ⟨_, rfl, .of_eq rfl rfl⟩
  | overtake k =>
    obtain ⟨p, hp, hperm⟩ := overtake_perm k s
    exact .inl ⟨_, rfl, by rw [hp]; exact ⟨rfl, hperm.subset⟩⟩

/-- A step goes on, and keeps the host's side, unless the next transaction of the program faults. -/
theorem step_goesOn (s : State) : GoesOnUnless s.HeadFaults s (step s) :=
  (takeTurn_goesOn (nextTurn s) { s with sched := s.sched.tail }).imp_left
    fun ⟨t, ht, hk⟩ => ⟨t, ht, hk.platform, hk.program⟩

/-- A step of a program that cannot fault goes on. -/
theorem step_next_of_noBusFault {s : State} (h : s.noBusFault) :
    ∃ t, step s = .next t ∧ HostSideKept s t :=
  (step_goesOn s).resolve_right fun ⟨_, hf⟩ => h.not_headFaults hf

/-- Settles O34: a step goes on unless the transaction at the head of the program faults. -/
theorem onlyABusErrorStops : Obligations.OnlyABusErrorStops := by
  intro s
  refine ⟨fun r h => ?_, fun f h => ?_, fun hs => ?_⟩
  · rcases step_goesOn s with ⟨t, ht, -⟩ | ⟨ht, -⟩ <;> simp [ht] at h
  · rcases step_goesOn s with ⟨t, ht, -⟩ | ⟨-, tx, rest, hp, he, hr⟩
    · simp [ht] at h
    · exact ⟨he, tx, rest, hp, hr⟩
  · obtain ⟨t, ht, hk⟩ := step_next_of_noBusFault hs
    exact ⟨t, ht, hk.noBusFault hs, hk.platform⟩

/-! ### A running command -/

/-- Settles O31: neither the host's part nor a completion changes an operand of a running command. -/
theorem operandsAreStableWhileBusy : Obligations.OperandsAreStableWhileBusy := by
  intro s t h hb hn
  rcases step_parts h with ⟨hr, -⟩ | hp | ⟨-, u, hp, hc⟩
  · exact absurd hr hn
  · obtain ⟨-, -, hin⟩ := hp.command_kept hb
    exact hin
  · obtain ⟨-, -, hcost, hklen, hsalt, hkey, hctext⟩ := hp.command_kept hb
    obtain ⟨hcost', hklen', hsalt', hkey', hctext'⟩ := hc.operands
    exact ⟨hcost'.trans hcost, hklen'.trans hklen, hsalt'.trans hsalt, hkey'.trans hkey,
      hctext'.trans hctext⟩

/-- A command has ended with result `res` (R241). -/
def Ended (res : Result) (t : State) : Prop :=
  t.busy = false ∧ t.curOp = none ∧ t.done = true ∧ t.result = res

/-- Command `i` runs, and its operands give `res`. -/
def RunsTo (i : Instr) (res : Result) (s : State) : Prop :=
  s.busy = true ∧ s.curOp = some i ∧ expectedResult i s = res

/-- A step that is no reset leaves the running command running, with the same result to come, or ends
it with that result (R68, R73). -/
theorem step_running {i : Instr} {res : Result} {s t : State} (hs : RunsTo i res s)
    (hn : nextTurn s ≠ .rst) (h : step s = .next t) : RunsTo i res t ∨ Ended res t := by
  obtain ⟨hb, hi, hres⟩ := hs
  rcases step_parts h with ⟨hr, -⟩ | hp | ⟨-, u, hp, hc⟩
  · exact absurd hr hn
  · obtain ⟨hbf, hhash⟩ := hp.results_kept
    obtain ⟨hcur, hsv, hcost, hklen, hsalt, hkey, hctext⟩ := hp.command_kept hb
    have hsame := expectedResult_congr i (by simp [State.result, hbf, hhash, hsv]) hcost hklen
      hsalt hkey hctext
    exact .inl ⟨hp.busy_of_busy hb, hcur.trans hi, hsame.trans hres⟩
  · obtain ⟨hidle, hnone, hdone, -⟩ := hc.flags
    rcases completion_result_of_hostPart hb hp hc with ⟨hcur, -⟩ | ⟨j, hj, hr⟩
    · simp [hi] at hcur
    · cases hi.symm.trans hj
      exact .inr ⟨hidle, hnone, hdone, hr.trans hres⟩

/-- The engine's turn leaves the schedule. -/
theorem engineTurn_sched {s t : State} (h : engineTurn s = .next t) : t.sched = s.sched := by
  rcases engineTurn_completion h with ⟨-, rfl⟩ | ⟨-, hc⟩
  · rfl
  · cases hc with
    | bare => rfl
    | @finish i => cases i <;> rfl

/-- A turn leaves the rest of the schedule. -/
theorem takeTurn_sched {k : Turn} {s t : State} (h : takeTurn k s = .next t) :
    t.sched = s.sched := by
  cases k with
  | host => exact (hostTurn_keeps_unread h).2.2
  | engine => exact engineTurn_sched h
  | sameCycle =>
    obtain ⟨u, hu, ⟨-, rfl⟩ | ⟨-, ht⟩⟩ := sameCycleTurn_cases h
    · exact (hostTurn_keeps_unread hu).2.2
    · exact (engineTurn_sched ht).trans (hostTurn_keeps_unread hu).2.2
  | rst => cases h; rfl
  | overtake k =>
    cases h
    obtain ⟨p, hp⟩ := overtake_eq k s
    rw [hp]

/-- A step takes one turn off the schedule. -/
theorem step_sched {s t : State} (h : step s = .next t) : t.sched = s.sched.tail :=
  takeTurn_sched h

/-- With no schedule left, the running command ends in the next step (the fairness of R240). -/
theorem runsTo_ends_of_no_sched {i : Instr} {res : Result} {s : State} (hs : RunsTo i res s)
    (hq : s.sched = []) : ∃ t, step s = .next t ∧ Ended res t := by
  obtain ⟨hb, hi, hres⟩ := hs
  have hn : nextTurn s = .engine := by simp [nextTurn, hq, hb]
  have hstep : step s = engineTurn { s with sched := s.sched.tail } := by
    simp only [step, hn, takeTurn]
  refine ⟨_, hstep.trans (engineTurn_running hb hi), rfl, rfl, rfl, ?_⟩
  rw [finishOf_result, ← hres]
  exact expectedResult_congr i rfl rfl rfl rfl rfl rfl

/-- A running command ends, by induction on the schedule: each turn ends it or leaves it running. -/
theorem runsTo_ends {i : Instr} {res : Result} {q : List Turn} {s : State} (hs : RunsTo i res s)
    (hq : s.sched = q) (hrst : Turn.rst ∉ q) (hf : s.noBusFault) :
    ∃ k t, k ≤ q.length + 1 ∧ runSteps k s = .next t ∧ Ended res t := by
  induction q generalizing s with
  | nil =>
    obtain ⟨t, ht, hend⟩ := runsTo_ends_of_no_sched hs hq
    exact ⟨1, t, by simp, by simp [runSteps, ht], hend⟩
  | cons turn q ih =>
    obtain ⟨hne, hrest⟩ := not_or.mp (mt List.mem_cons.mpr hrst)
    have hn : nextTurn s ≠ .rst := by simpa [nextTurn, hq] using Ne.symm hne
    obtain ⟨t, ht, hk⟩ := step_next_of_noBusFault hf
    rcases step_running hs hn ht with hrun | hend
    · obtain ⟨k, u, hle, hu, hend⟩ :=
        ih hrun (by simp [step_sched ht, hq]) hrest (hk.noBusFault hf)
      exact ⟨k + 1, u, by simp [hle], by simp [runSteps, ht, hu], hend⟩
    · exact ⟨1, t, by simp, by simp [runSteps, ht], hend⟩

/-- Settles O32: the command runs to the result of its operands as they stand at the start. -/
theorem runningCommandCompletes : Obligations.RunningCommandCompletes := by
  intro s i hb hi hrst hf
  exact runsTo_ends ⟨hb, hi, rfl⟩ rfl hrst hf

end Sys2Proof.Machine
end

section
/-!
Proofs about the encoding, part 1: the command word and its execution (R100 to R104).

A word is a command exactly when its two fields are those of the command, so the decoder and the encoder
agree in both directions.
-/

namespace Sys2Proof.Machine

/-! ### Decoder and encoder -/

/-- A word decodes to a command exactly when RSVD is 0 and OP is the command's (R101, R103). -/
theorem decode_eq_ok_iff {w : Word} {i : Instr} :
    decode w = .ok i ↔ rsvdField w = 0 ∧ opField w = i.op := by
  unfold decode
  split_ifs with hr h1 h2 h3
  · exact iff_of_false (by simp) fun ⟨hr', _⟩ => hr hr'
  · cases i <;> simp [not_not.mp hr, h1, Instr.op]
  · cases i <;> simp [not_not.mp hr, h2, Instr.op]
  · cases i <;> simp [not_not.mp hr, h3, Instr.op]
  · refine iff_of_false (by simp) fun ⟨_, hop⟩ => ?_
    cases i with
    | setup => exact h1 hop
    | encrypt => exact h2 hop
    | hash => exact h3 hop

/-- The two fields are the whole word (R100). -/
theorem rsvdField_append_opField (w : Word) : rsvdField w ++ opField w = w :=
  BitVec.extractLsb'_append_extractLsb'

/-- The fields of each command's word, as one statement for all commands. -/
theorem encodedFields (i : Instr) : Laws.EncodedFields.Statement i := by
  cases i with
  | setup => exact Laws.EncodedFields.setup
  | encrypt => exact Laws.EncodedFields.encrypt
  | hash => exact Laws.EncodedFields.hash

theorem decode_encode (i : Instr) : decode (encode i) = .ok i := by
  obtain ⟨-, hfields⟩ := encodedFields i
  exact decode_eq_ok_iff.mpr hfields

theorem eq_encode_of_decode {w : Word} {i : Instr} (h : decode w = .ok i) : w = encode i := by
  obtain ⟨hr, hop⟩ := decode_eq_ok_iff.mp h
  rw [← rsvdField_append_opField w, hr, hop]
  rfl

/-- On a number of 32 bits the table's decoder is the decoder. -/
theorem decodeTableWord_toNat (w : Word) : decodeTableWord 32 w.toNat = (decode w).toOption := by
  have hlt := w.isLt
  simp [decodeTableWord, Nat.mod_eq_of_lt hlt, hlt]

/-- A number the table's decoder takes fits in a word, and that word decodes. -/
theorem decodeTableWord_eq_some {nbits w : Nat} {i : Instr} (h : decodeTableWord nbits w = some i) :
    w % 2 ^ nbits < 2 ^ 32 ∧ decode (BitVec.ofNat 32 (w % 2 ^ nbits)) = .ok i := by
  simp only [decodeTableWord] at h
  split at h
  · rename_i hlt
    refine ⟨hlt, ?_⟩
    cases hd : decode (BitVec.ofNat 32 (w % 2 ^ nbits)) with
    | ok j => simpa [hd, Except.toOption] using h
    | error e => simp [hd, Except.toOption] at h
  · cases h

/-- Settles O2: a command's word has the command's fields, and a word is determined by its fields. -/
theorem decodeEncodeAgree : Obligations.DecodeEncodeAgree := by
  refine ⟨fun i _ => ⟨decode_encode i, ?_⟩, fun _ _ => eq_encode_of_decode⟩
  rw [decodeTableWord_toNat, decode_encode]
  rfl

/-- Settles O1: the legal words are the encodings of the commands, and the others are evaluated. -/
theorem commandWordsDecode : Obligations.CommandWordsDecode :=
  ⟨decode_encode .setup, decode_encode .encrypt, decode_encode .hash, rfl, rfl, rfl⟩

/-! ### The fetched word -/

/-- A write of a command word to CMD at an idle engine executes the command (R104, R232). -/
theorem busWrite_command {v : Word} {i : Instr} {s : State} (hb : s.busy = false)
    (hd : decode v = .ok i) : busWrite (some .cmd) v s = exec i s := by
  simp [busWrite, writeCmd, hb, hd]

/-- Settles O4: the next turn is the host's, whose write is admitted, aligned and 32 bits wide, so it
reaches CMD at an idle engine. -/
theorem stepRunsTheFetchedWord : Obligations.StepRunsTheFetchedWord := by
  intro s nbits w i h
  obtain ⟨hlt, hd⟩ := decodeTableWord_eq_some h
  have hfetch : step (s.withFetchWord nbits w) =
      hostWrite (admittedIssuer s.platform) (windowBase s.platform + regOffset .cmd)
        (if w % 2 ^ nbits < 2 ^ 32 then 4 else 8) (BitVec.ofNat 32 (w % 2 ^ nbits))
        { s with busy := false, curOp := none } := rfl
  rw [hfetch, if_pos hlt]
  exact (hostWrite_register (s := { s with busy := false, curOp := none })
    (admits_admitted s.platform) .cmd _).trans (busWrite_command rfl hd)

end Sys2Proof.Machine
end

section
/-!
Proofs about the encoding, part 2: the host's programs (R66, R108, R109, R171).

A `poll` reads its register and stays until the value matches.  The transactions of `ldkey` are register
writes at an idle engine; a run of them is the fold of those writes, whose key words are then read back
byte by byte.
-/

namespace Sys2Proof.Machine

/-! ### A poll -/

/-- A 32-bit read of a register whose value is not free answers its word and leaves the state (R231). -/
theorem readReply_register {s : State} {who : Nat} {r : Reg} (hadm : admits s.platform who = true)
    (hfree : s.readsFree (some r) = false) :
    readReply who (windowBase s.platform + regOffset r) 4 s =
      some (.data (s.regWord (some r)), s) := by
  simp [readReply, route_register hadm, State.readReg, hfree]

/-- A `poll` that gets data records it, and leaves the program exactly on a match (R108). -/
theorem hostPoll_data {s : State} {who addr : Nat} {w : Word} (m v : Word) (rest : List Transaction)
    (h : readReply who addr 4 s = some (.data w, s)) :
    hostPoll who addr m v rest s =
      .next (State.record { addr := addr, reply := .data w, expect := none }
        { s with program := if w &&& m = v then rest else s.program }) := by
  unfold hostPoll
  rw [h]
  by_cases hm : w &&& m = v
  · simp [pollEnds, hm, State.record]
  · simp [pollEnds, hm, State.record]

/-- Settles O53: the read reaches the register, whose word is what the `poll` compares. -/
theorem pollRepeatsUntilItMatches : Obligations.PollRepeatsUntilItMatches := by
  intro s who r m v rest hadm hfree hp
  have hturn : hostTurn s = hostPoll who (windowBase s.platform + regOffset r) m v rest s := by
    simp only [hostTurn, hp]
  exact ⟨_, hturn.trans (hostPoll_data m v rest (readReply_register hadm hfree)), rfl, rfl⟩

/-! ### A run of register writes -/

/-- The host's transactions that write `ws` to the registers, in order. -/
def regWrites (p : Platform) (ws : List (Reg × Word)) : List HostOp :=
  ws.map fun x => .write (windowBase p + regOffset x.1) 4 x.2

/-- The register writes `ws`, one after the other. -/
def State.writeRegs (ws : List (Reg × Word)) (s : State) : State :=
  ws.foldl (fun s x => s.writeReg (some x.1) x.2) s

theorem State.writeRegs_append (ws ws' : List (Reg × Word)) (s : State) :
    s.writeRegs (ws ++ ws') = (s.writeRegs ws).writeRegs ws' := List.foldl_append

theorem writeRegs_busy (ws : List (Reg × Word)) (s : State) :
    (s.writeRegs ws).busy = s.busy := by
  induction ws generalizing s with
  | nil => rfl
  | cons x ws ih =>
    obtain ⟨⟨hb, -⟩, -⟩ := writeReg_frame (some x.1) x.2 s
    exact (ih _).trans hb

/-- A register write does not read the host's program. -/
theorem writeReg_program (r : Reg) (v : Word) (p : List Transaction) (s : State) :
    State.writeReg (some r) v { s with program := p } =
      { s.writeReg (some r) v with program := p } := by
  cases r with
  | cost | klen | salt | key | ctext =>
    simp only [State.writeReg, State.lockedWrite]
    split <;> rfl
  | _ => rfl

/-- At an idle engine with no schedule, the step is the host's turn (notes/assumptions/1). -/
theorem step_host {s : State} (hb : s.busy = false) (hq : s.sched = []) : step s = hostTurn s := by
  have hn : nextTurn s = .host := by simp [nextTurn, hq, hb]
  have hs : { s with sched := s.sched.tail } = s := by rw [hq, List.tail_nil, ← hq]
  simp only [step, hn, takeTurn, hs]

/-- There, the step of a host that writes a register other than CMD is that write. -/
theorem step_write {s : State} {who : Nat} {r : Reg} {v : Word} {rest : List Transaction}
    (hadm : admits s.platform who = true) (hb : s.busy = false) (hq : s.sched = []) (hr : r ≠ .cmd)
    (hp : s.program = ⟨who, .write (windowBase s.platform + regOffset r) 4 v⟩ :: rest) :
    step s = .next (State.writeReg (some r) v { s with program := rest }) := by
  have hw : s.headWrite r v := ⟨who, _, 4, rest, hp, route_register hadm r⟩
  rw [step_host hb hq, hostTurn_headWrite hw, hp]
  simp [busWrite, hr]

/-- As many steps as register writes at the head of the program carry out those writes: each step is
one write, after which the engine is idle still. -/
theorem runSteps_regWrites {who : Nat} {ws : List (Reg × Word)} (rest : List Transaction)
    (hws : ∀ x ∈ ws, x.1 ≠ .cmd) {s : State} (hadm : admits s.platform who = true)
    (hb : s.busy = false) (hq : s.sched = []) :
    runSteps ws.length { s with program := issue who (regWrites s.platform ws) ++ rest } =
      .next { s.writeRegs ws with program := rest } := by
  induction ws generalizing s with
  | nil => rfl
  | cons x ws ih =>
    obtain ⟨r, v⟩ := x
    obtain ⟨hr, hws⟩ := List.forall_mem_cons.mp hws
    obtain ⟨⟨hb', -, -, -, -, -, -, hp, -, hq', -⟩, -⟩ := writeReg_frame (some r) v s
    have hstep : step { s with program := issue who (regWrites s.platform ((r, v) :: ws)) ++ rest } =
        .next { s.writeReg (some r) v with
          program := issue who (regWrites (s.writeReg (some r) v).platform ws) ++ rest } := by
      rw [hp, ← writeReg_program]
      exact step_write (s := { s with program := _ }) hadm hb hq hr rfl
    simp only [List.length_cons, runSteps, hstep]
    exact ih hws (hp ▸ hadm) (hb'.trans hb) (hq'.trans hq)

/-! ### The writes of `ldkey` -/

/-- The writes of `f w` to KEYw, for the indexes `ks`. -/
def keyWrites (f : Fin 18 → Word) (ks : List (Fin 18)) : List (Reg × Word) :=
  ks.map fun w => (.key w, f w)

/-- At an idle engine these writes put `f w` into the key words they name, and leave the others. -/
theorem writeRegs_keyWrites_get (f : Fin 18 → Word) (ks : List (Fin 18)) {s : State}
    (hb : s.busy = false) (w : Fin 18) :
    (s.writeRegs (keyWrites f ks)).key.get w = if w ∈ ks then f w else s.key.get w := by
  induction ks generalizing s with
  | nil => simp [keyWrites, State.writeRegs]
  | cons k ks ih =>
    have hk : s.writeRegs (keyWrites f (k :: ks)) = (s.setKey k (f k)).writeRegs (keyWrites f ks) :=
      congrArg (State.writeRegs _) (lockedWrite_idle hb)
    rw [hk, ih (s := s.setKey k (f k)) hb, State.setKey_key]
    by_cases hwk : w = k
    · subst hwk
      simp [Vector.get_eq_getElem]
    · simp [get_set_of_ne _ _ hwk, hwk]

/-- The register writes of `ldkey` for the key bytes `b`: the key buffer, then KLEN (R109). -/
def ldkeyWrites (b : List Byte) : List (Reg × Word) :=
  keyWrites (fun w => keyBufferWord b w) (List.finRange 18) ++ [(.klen, BitVec.ofNat 32 b.length)]

theorem stmtOps_ldkey (p : Platform) (text : List Byte) :
    stmtOps p (.ldkey text) = regWrites p (ldkeyWrites (keyBytes text)) := rfl

theorem ldkeyWrites_ne_cmd (b : List Byte) : ∀ x ∈ ldkeyWrites b, x.1 ≠ .cmd := by
  intro x hx
  rcases List.mem_append.mp hx with h | h
  · obtain ⟨w, -, rfl⟩ := List.mem_map.mp h
    simp
  · obtain rfl := List.mem_singleton.mp h
    simp

/-- At an idle engine the writes of `ldkey` fill the key buffer and KLEN. -/
theorem writeRegs_ldkeyWrites (b : List Byte) {s : State} (hb : s.busy = false) :
    (∀ w, (s.writeRegs (ldkeyWrites b)).key.get w = keyBufferWord b w) ∧
      (s.writeRegs (ldkeyWrites b)).klen = (BitVec.ofNat 32 b.length).extractLsb' 0 7 := by
  have hsplit : s.writeRegs (ldkeyWrites b) =
      (s.writeRegs (keyWrites (fun w => keyBufferWord b w) (List.finRange 18))).setKlen
        (BitVec.ofNat 32 b.length) :=
    (State.writeRegs_append _ _ s).trans (lockedWrite_idle ((writeRegs_busy _ s).trans hb))
  rw [hsplit]
  refine ⟨fun w => ?_, rfl⟩
  rw [State.setKlen_key, writeRegs_keyWrites_get _ _ hb, if_pos (List.mem_finRange w)]

/-! ### The bytes of the key buffer -/

/-- The bytes of a packed word are the bytes it is packed from (R66, R134). -/
theorem wordByte_packWord (a b c d : Byte) :
    wordByte (packWord a b c d) 0 = a ∧ wordByte (packWord a b c d) 1 = b ∧
    wordByte (packWord a b c d) 2 = c ∧ wordByte (packWord a b c d) 3 = d := by
  have h0 : (a ++ b ++ c ++ d).extractLsb' 24 8 = a := by
    rw [BitVec.extractLsb'_append_eq_of_le (by decide), BitVec.extractLsb'_append_eq_of_le (by decide)]
    exact BitVec.extractLsb'_append_eq_left
  have h1 : (a ++ b ++ c ++ d).extractLsb' 16 8 = b := by
    rw [BitVec.extractLsb'_append_eq_of_le (by decide), BitVec.extractLsb'_append_eq_of_le (by decide)]
    exact BitVec.extractLsb'_append_eq_right
  have h2 : (a ++ b ++ c ++ d).extractLsb' 8 8 = c := by
    rw [BitVec.extractLsb'_append_eq_of_le (by decide)]
    exact BitVec.extractLsb'_append_eq_right
  exact ⟨h0, h1, h2, BitVec.extractLsb'_append_eq_right⟩

/-- Byte `j` of the key buffer for key bytes `b` is byte `j` of `b`. -/
theorem wordByte_keyBufferWord (b : List Byte) (j : Nat) :
    wordByte (keyBufferWord b (j / 4)) (j % 4) = b.getD j 0 := by
  obtain ⟨h0, h1, h2, h3⟩ := wordByte_packWord (b.getD (4 * (j / 4)) 0) (b.getD (4 * (j / 4) + 1) 0)
    (b.getD (4 * (j / 4) + 2) 0) (b.getD (4 * (j / 4) + 3) 0)
  have hj := Nat.div_add_mod j 4
  have hlt := Nat.mod_lt j (show 0 < 4 by decide)
  unfold keyBufferWord
  interval_cases j % 4
  · rw [h0, ← hj, Nat.add_zero, Nat.mul_div_cancel_left _ (by decide)]
  · rw [h1, hj]
  · rw [h2, hj]
  · rw [h3, hj]

/-- A key register that holds the words of `b` holds the bytes of `b`. -/
theorem keyByte_of_words {key : Vector Word 18} {b : List Byte}
    (h : ∀ w : Fin 18, key.get w = keyBufferWord b w) {j : Nat} (hj : j < 72) :
    keyByte key j = b.getD j 0 := by
  have hw := h ⟨j / 4, by omega⟩
  rw [← wordByte_keyBufferWord, ← hw]
  exact streamByte_eq key (by omega)

theorem length_keyBytes (text : List Byte) :
    (keyBytes text).length = min (text.length + 1) 72 := by
  simp [keyBytes, Nat.min_comm]

theorem getD_keyBytes (text : List Byte) {j : Nat} (h : j < 72) :
    (keyBytes text).getD j 0 = (text ++ [0]).getD j 0 := by
  simp only [keyBytes, List.getD_eq_getElem?_getD, List.getElem?_take_of_lt h]

/-- A key length up to 72 fits in KLEN (R33). -/
theorem toNat_klen {n : Nat} (h : n ≤ 72) : ((BitVec.ofNat 32 n).extractLsb' 0 7).toNat = n := by
  simp only [BitVec.extractLsb'_toNat, BitVec.toNat_ofNat, Nat.shiftRight_zero]
  omega

/-- Settles O54: the nineteen steps are the nineteen register writes of `ldkey`, and the key buffer they
fill is read back byte by byte. -/
theorem ldkeyLoadsTheKey : Obligations.LdkeyLoadsTheKey := by
  intro s who text rest hadm hb hq hp
  have hrun := runSteps_regWrites rest (ldkeyWrites_ne_cmd (keyBytes text)) hadm hb hq
  rw [← stmtOps_ldkey, ← hp] at hrun
  obtain ⟨hkey, hklen⟩ := writeRegs_ldkeyWrites (keyBytes text) hb
  have hlen := length_keyBytes text
  have hn : (s.writeRegs (ldkeyWrites (keyBytes text))).klen.toNat = min (text.length + 1) 72 := by
    rw [hklen, hlen, toNat_klen (by omega)]
  refine ⟨_, hrun, rfl, (writeRegs_busy _ s).trans hb, hn, fun j hj => ?_⟩
  have hj72 : j < 72 := by
    simp only [hn] at hj
    omega
  exact (keyByte_of_words hkey hj72).trans (getD_keyBytes text hj72)

end Sys2Proof.Machine
end

section
/-!
Proofs about the Blowfish core: Encipher and Decipher, and the key and salt streams (R131 to R136).

Encipher and Decipher are one cipher over eighteen keys, taken up or down.  The first round of the
inverse turns the final whitening of `n + 1` rounds into that of the first `n`, so the inverse takes the
rounds back one at a time.
-/

namespace Sys2Proof.Machine

/-! ### Encipher and its inverse -/

/-- What follows the last round: undo its swap and exclusive-or the last two keys (R132). -/
def whiten (a b : Word) (x : Block) : Block := (x.2 ^^^ a, x.1 ^^^ b)

/-- The rounds of a cipher over the keys `k`, of which the last two are kept for the whitening. -/
def Blowfish.rounds (bf : Blowfish) {n : Nat} (k : Fin (n + 2) → Word) (x : Block) : Block :=
  ((List.finRange n).map fun i => k (i.castAdd 2)).foldl bf.round x

/-- The rounds and the whitening that ends them (R132). -/
def Blowfish.cipher (bf : Blowfish) {n : Nat} (k : Fin (n + 2) → Word) (x : Block) : Block :=
  whiten (k (Fin.last (n + 1))) (k (Fin.last n).castSucc) (bf.rounds k x)

/-- Encipher takes P upwards (R132). -/
theorem encipher_eq_cipher (bf : Blowfish) : bf.encipher = bf.cipher (n := 16) bf.pWord := rfl

/-- Decipher takes P downwards (R133). -/
theorem decipher_eq_cipher (bf : Blowfish) :
    bf.decipher = bf.cipher (n := 16) (bf.pWord ∘ Fin.rev) := by
  have hkeys : bf.roundKeysDown =
      (List.finRange 16).map fun i => (bf.pWord ∘ Fin.rev) (i.castAdd 2) :=
    List.map_congr_left fun i _ => congrArg bf.pWord (Fin.ext (by simp))
  funext x
  unfold Blowfish.decipher
  rw [hkeys]
  rfl

theorem whiten_whiten (a b : Word) (x : Block) : whiten b a (whiten a b x) = x := by
  simp [whiten]

/-- A round with the whitening key `b` undoes the round with `k` and whitens with `a` and `k`. -/
theorem Blowfish.round_whiten_round (bf : Blowfish) (a b k : Word) (x : Block) :
    bf.round (whiten b a (bf.round x k)) b = whiten a k x := by
  have hl : x.1 ^^^ k ^^^ b ^^^ b = x.1 ^^^ k := by simp [BitVec.xor_assoc]
  have hr (y : Word) : x.2 ^^^ y ^^^ a ^^^ y = x.2 ^^^ a := by simp [BitVec.xor_assoc]
  simp only [Blowfish.round, whiten, hl, hr]

/-- Upwards the last round comes last. -/
theorem Blowfish.rounds_succ (bf : Blowfish) {n : Nat} (k : Fin (n + 3) → Word) (x : Block) :
    bf.rounds k x = bf.round (bf.rounds (k ∘ Fin.castSucc) x) (k (Fin.last n).castSucc.castSucc) := by
  simp only [Blowfish.rounds, List.finRange_succ_last, List.map_append, List.map_map, List.foldl_append]
  rfl

/-- Downwards the last key comes first. -/
theorem Blowfish.rounds_rev_succ (bf : Blowfish) {n : Nat} (k : Fin (n + 3) → Word) (x : Block) :
    bf.rounds (k ∘ Fin.rev) x =
      bf.rounds ((k ∘ Fin.castSucc) ∘ Fin.rev) (bf.round x (k (Fin.last (n + 2)))) := by
  have hkey (i : Fin n) : (i.succ.castAdd 2).rev = (i.castAdd 2).rev.castSucc :=
    Fin.rev_succ (i.castAdd 2)
  simp only [Blowfish.rounds, List.finRange_succ, List.map_cons, List.map_map, List.foldl_cons,
    Function.comp_def, hkey]
  rfl

/-- The downward rounds take the upward ones back, all but the whitening with the first two keys. -/
theorem Blowfish.rounds_rev_cipher (bf : Blowfish) {n : Nat} (k : Fin (n + 2) → Word) (x : Block) :
    bf.rounds (k ∘ Fin.rev) (bf.cipher k x) = whiten (k 1) (k 0) x := by
  induction n with
  | zero => rfl
  | succ n ih =>
    have hfirst : bf.round (bf.cipher k x) (k (Fin.last (n + 2))) = bf.cipher (k ∘ Fin.castSucc) x := by
      unfold Blowfish.cipher
      rw [bf.rounds_succ, bf.round_whiten_round]
      rfl
    rw [bf.rounds_rev_succ, hfirst, ih]
    rfl

/-- The cipher over the reversed keys is the inverse (R133). -/
theorem Blowfish.cipher_rev_cipher (bf : Blowfish) {n : Nat} (k : Fin (n + 2) → Word) (x : Block) :
    bf.cipher (k ∘ Fin.rev) (bf.cipher k x) = x := by
  have h0 : (k ∘ Fin.rev) (Fin.last (n + 1)) = k 0 := congrArg k (Fin.rev_last _)
  have h1 : (k ∘ Fin.rev) (Fin.last n).castSucc = k 1 :=
    congrArg k (by rw [Fin.rev_castSucc, Fin.rev_last]; rfl)
  rw [Blowfish.cipher, bf.rounds_rev_cipher, h0, h1, whiten_whiten]

/-- Settles O41: each is the cipher over the other's keys reversed. -/
theorem decipherInvertsEncipher : Obligations.DecipherInvertsEncipher := by
  intro bf x
  have hdown := bf.cipher_rev_cipher (n := 16) (bf.pWord ∘ Fin.rev) x
  rw [Function.comp_assoc, Fin.rev_involutive.comp_self, Function.comp_id] at hdown
  rw [encipher_eq_cipher, decipher_eq_cipher]
  exact ⟨bf.cipher_rev_cipher bf.pWord x, hdown⟩

/-- Settles O40: the four values, evaluated. -/
theorem datapathExamples : Obligations.DatapathExamples := by
  unfold Obligations.DatapathExamples
  decide +kernel

/-! ### The streams -/

/-- The four bytes of a word, packed, are the word (R66, R134). -/
theorem packWord_wordByte (w : Word) :
    packWord (wordByte w 0) (wordByte w 1) (wordByte w 2) (wordByte w 3) = w := by
  have h16 : w.extractLsb' 24 8 ++ w.extractLsb' 16 8 = w.extractLsb' 16 16 :=
    BitVec.extractLsb'_append_extractLsb'_eq_extractLsb' rfl
  have h8 : w.extractLsb' 16 16 ++ w.extractLsb' 8 8 = w.extractLsb' 8 24 :=
    BitVec.extractLsb'_append_extractLsb'_eq_extractLsb' rfl
  have h0 : w.extractLsb' 8 24 ++ w.extractLsb' 0 8 = w.extractLsb' 0 32 :=
    BitVec.extractLsb'_append_extractLsb'_eq_extractLsb' rfl
  calc packWord (wordByte w 0) (wordByte w 1) (wordByte w 2) (wordByte w 3)
    _ = w.extractLsb' 24 8 ++ w.extractLsb' 16 8 ++ w.extractLsb' 8 8 ++ w.extractLsb' 0 8 := rfl
    _ = w := by rw [h16, h8, h0, BitVec.extractLsb'_eq_self]

/-- Byte `4 i + k` of the salt, round its 16 bytes, is byte `k` of word `i mod 4` (R135, R136). -/
theorem saltByte_cyclic (salt : Vector Word 4) (i : Nat) {k : Nat} (hk : k < 4) :
    saltByte salt ((4 * i + k) % 16) = wordByte (saltWord salt i) k := by
  have hword : (4 * i + k) % 16 / 4 = i % 4 := by omega
  have hbyte : (4 * i + k) % 16 % 4 = k := by omega
  unfold saltByte
  rw [streamByte_eq salt (by omega)]
  simp only [hword, hbyte]
  rfl

/-- The salt as a key gives the salt stream (R136). -/
theorem saltKeyWord_eq_saltWord (salt : Vector Word 4) (i : Nat) :
    saltKeyWord salt i = saltWord salt i := by
  have h0 : saltByte salt (4 * i % 16) = wordByte (saltWord salt i) 0 :=
    saltByte_cyclic salt i (k := 0) (by decide)
  unfold saltKeyWord cyclicWord
  rw [h0, saltByte_cyclic salt i (by decide), saltByte_cyclic salt i (by decide),
    saltByte_cyclic salt i (by decide), packWord_wordByte]

/-- Settles O43: the salt key stream is packed from the salt bytes, and equals the salt stream. -/
theorem saltKeyWordIsSaltWord : Obligations.SaltKeyWordIsSaltWord :=
  fun salt i => ⟨rfl, saltKeyWord_eq_saltWord salt i, rfl⟩

/-- A key whose bytes repeat with period `m` gives the stream of its first `m` bytes (R134). -/
theorem keyWord_of_period {key : Vector Word 18} {m n : Nat} (hn : 1 ≤ n) (hmn : m ∣ n)
    (h : ∀ j < n, keyByte key j = keyByte key (j % m)) : keyWord key n = keyWord key m := by
  have hbyte (j : Nat) : keyByte key (j % n) = keyByte key (j % m) := by
    rw [h _ (Nat.mod_lt j hn), Nat.mod_mod_of_dvd j hmn]
  funext i
  simp only [keyWord, cyclicWord, hbyte]

/-- Settles O44: EksSetup reads the key through its stream alone, and the streams are equal. -/
theorem repeatedKeyGivesTheSameStream : Obligations.RepeatedKeyGivesTheSameStream := by
  intro key m n _ hmn _ hn hrep
  have hstream := keyWord_of_period hn hmn hrep
  refine ⟨congrFun hstream, fun c salt => ?_⟩
  unfold eksSetup
  rw [hstream]

end Sys2Proof.Machine
end

section
/-!
Proofs about the key expansion, part 1: the completion of SETUP and the frame of every command (R167,
R204, R205), InitState, XorKeyIntoP, and EksSetup as a run of expansions (R160, R161, R164 to R166).
-/

namespace Sys2Proof.Machine

/-! ### SETUP, and what every command leaves -/

/-- Settles O8: the running SETUP completes, with the expanded key. -/
theorem setupCompletes : Obligations.SetupCompletes :=
  fun _ hb hc => exec_running hb hc

/-- All the states a command can leave: an error end, a start, a completion, or a lost write. -/
theorem exec_outcome {i : Instr} {s t : State} (h : exec i s = .next t) :
    (∃ e, t = s.clearResult.endWithError e) ∨ t = (claimOf i s.clearResult).start i ∨
      t = (finishOf i s).complete ∨ t = s.ignoreWrite := by
  rcases exec_cases i s with ⟨-, e⟩ | ⟨-, -, e⟩ | ⟨-, -, e⟩ <;> rw [e] at h <;> cases h
  · rcases accept_cases i (checkOf i) (claimOf i) s with ⟨err, -, e⟩ | ⟨-, e⟩
    · exact .inl ⟨err, e⟩
    · exact .inr (.inl e)
  · exact .inr (.inr (.inl rfl))
  · exact .inr (.inr (.inr rfl))

/-- A command changes no field but these, at its acceptance or at its completion (R232, R241). -/
theorem exec_writes {i : Instr} {s t : State} (h : exec i s = .next t) :
    t = { s with
      busy := t.busy, done := t.done, sv := t.sv, ign := t.ign, errcode := t.errcode, hash := t.hash
      bf := t.bf, curOp := t.curOp, hidden := t.hidden, draws := t.draws } := by
  obtain ⟨_, rfl⟩ | rfl | rfl | rfl := exec_outcome h
  · rfl
  · cases i <;> rfl
  · cases i <;> rfl
  · rfl

/-- SETUP does not write HASH (R167). -/
theorem exec_setup_hash {s t : State} (h : exec .setup s = .next t) : t.hash = s.hash := by
  obtain ⟨_, rfl⟩ | rfl | rfl | rfl := exec_outcome h <;> rfl

/-- ENCRYPT writes neither P and S nor SV (R204). -/
theorem exec_encrypt_bf_sv {s t : State} (h : exec .encrypt s = .next t) :
    t.bf = s.bf ∧ t.sv = s.sv := by
  obtain ⟨_, rfl⟩ | rfl | rfl | rfl := exec_outcome h <;> exact ⟨rfl, rfl⟩

/-- Settles O12: the fields a command does not write are the inputs and the host's, and a register reads
by its own field. -/
theorem commandFrame : Obligations.CommandFrame := by
  intro i s t h
  have hw := exec_writes h
  have hhash : i = .setup → t.hash = s.hash := by
    rintro rfl
    exact exec_setup_hash h
  have hbf : i = .encrypt → t.bf = s.bf ∧ t.sv = s.sv := by
    rintro rfl
    exact exec_encrypt_bf_sv h
  refine ⟨by rw [hw]; exact ⟨rfl, rfl, rfl, rfl, rfl, rfl, rfl, rfl, rfl, rfl⟩, hhash, hbf,
    fun r hstatus hr hp => ?_⟩
  match r with
  | some .status => exact absurd rfl hstatus
  | some (.hash w) => exact congrArg (Vector.get · w) (hhash (hr w rfl))
  | some (.pswin n) => exact congrArg (Blowfish.window · n) (hbf (hp n rfl)).1
  | none | some .id | some .cmd => rfl
  | some .ctrl | some .cost | some .klen | some (.salt _) | some (.key _) | some (.ctext _) =>
    rw [hw]; rfl

/-! ### InitState -/

/-- Where a table stands in the ROM, its entries are ROM words. -/
theorem rom_of_append {pre t post : List Nat} (h : romTable = pre ++ t ++ post) {i : Nat}
    (hi : i < t.length) : rom (pre.length + i) = BitVec.ofNat 32 (t.getD i 0) := by
  rw [rom, h, List.append_assoc, List.getD_append_right _ _ _ _ (Nat.le_add_right ..),
    Nat.add_sub_cancel_left, List.getD_append _ _ _ _ hi]

/-- The words of a table that stands at word `base` of the ROM are ROM words. -/
theorem wordsOf_get_rom {n base : Nat} {pre t post : List Nat} (h : romTable = pre ++ t ++ post)
    (i : Fin n) (hbase : pre.length = base := by decide +kernel)
    (ht : t.length = n := by decide +kernel) : (wordsOf n t ht).get i = rom (base + i.val) := by
  rw [wordsOf_get, ← hbase, rom_of_append h (ht ▸ i.isLt)]

/-- Settles O46: the five tables stand one after the other in the ROM. -/
theorem initStateLoadsTheRom : Obligations.InitStateLoadsTheRom := by
  refine ⟨fun i => ?_, fun b i => ?_, by decide +kernel, by decide +kernel, by decide +kernel,
    by decide +kernel⟩
  · have h : initState.pWord i = rom (0 + i.val) :=
      wordsOf_get_rom (t := romP) (pre := []) (post := romS0 ++ romS1 ++ romS2 ++ romS3)
        (by simp only [romTable, List.nil_append, List.append_assoc]) i
    rwa [Nat.zero_add] at h
  · match b with
    | ⟨0, _⟩ =>
      exact wordsOf_get_rom (base := 18 + 256 * 0) (t := romS0) (pre := romP)
        (post := romS1 ++ romS2 ++ romS3) (by simp only [romTable, List.append_assoc]) i
    | ⟨1, _⟩ =>
      exact wordsOf_get_rom (base := 18 + 256 * 1) (t := romS1) (pre := romP ++ romS0)
        (post := romS2 ++ romS3) (by simp only [romTable, List.append_assoc]) i
    | ⟨2, _⟩ =>
      exact wordsOf_get_rom (base := 18 + 256 * 2) (t := romS2) (pre := romP ++ romS0 ++ romS1)
        (post := romS3) rfl i
    | ⟨3, _⟩ =>
      exact wordsOf_get_rom (base := 18 + 256 * 3) (t := romS3) (pre := romP ++ romS0 ++ romS1 ++ romS2)
        (post := []) (List.append_nil _).symm i

/-! ### XorKeyIntoP -/

/-- The loop of R161 over the indices of a list. -/
def xorWords (stream : Nat → Word) (l : List (Fin 18)) (bf : Blowfish) : Blowfish :=
  l.foldl (fun bf i => bf.setP i (bf.pWord i ^^^ stream i.val)) bf

theorem xorKeyIntoP_eq_xorWords (stream : Nat → Word) (bf : Blowfish) :
    xorKeyIntoP stream bf = xorWords stream (List.finRange 18) bf := rfl

theorem xorWords_cons (stream : Nat → Word) (i : Fin 18) (l : List (Fin 18)) (bf : Blowfish) :
    xorWords stream (i :: l) bf = xorWords stream l (bf.setP i (bf.pWord i ^^^ stream i.val)) := rfl

theorem xorWords_s (stream : Nat → Word) (l : List (Fin 18)) (bf : Blowfish) :
    (xorWords stream l bf).s = bf.s := by
  induction l generalizing bf with
  | nil => rfl
  | cons i l ih => rw [xorWords_cons, ih, Blowfish.setP_s]

/-- Over different indices, each word of P in the list is changed once. -/
theorem xorWords_pWord (stream : Nat → Word) {l : List (Fin 18)} (hl : l.Nodup) (bf : Blowfish)
    (j : Fin 18) :
    (xorWords stream l bf).pWord j = if j ∈ l then bf.pWord j ^^^ stream j.val else bf.pWord j := by
  induction l generalizing bf with
  | nil => simp [xorWords]
  | cons i l ih =>
    obtain ⟨hi, hl⟩ := List.nodup_cons.mp hl
    rw [xorWords_cons, ih hl]
    by_cases hj : j = i
    · subst hj
      simp [hi, Blowfish.pWord_setP]
    · simp [hj, Blowfish.pWord_setP]

/-- Settles O47: the loop runs over every index of P once. -/
theorem keyIsXoredIntoP : Obligations.KeyIsXoredIntoP := by
  intro stream bf
  rw [xorKeyIntoP_eq_xorWords]
  exact ⟨xorWords_s stream _ bf, fun i =>
    (xorWords_pWord stream (List.nodup_finRange 18) bf i).trans (if_pos (List.mem_finRange i))⟩

/-! ### EksSetup -/

/-- The last of `n + 1` applications. -/
theorem iterate_succ_last {α : Type} (f : α → α) (n : Nat) (x : α) :
    iterate f (n + 1) x = f (iterate f n x) :=
  iterate_add f n 1 x

/-- Settles O48: 2^(c + 1) iterations are 2^c and then 2^c more. -/
theorem costDoublesTheIterations : Obligations.CostDoublesTheIterations := by
  intro n key salt
  unfold eksSetup
  refine ⟨rfl, fun c => ?_⟩
  rw [pow_succ, Nat.mul_two, iterate_add]
  rfl

/-- The states EksSetup goes through: InitState, the salted expansion of it, and then by turns the
unsalted expansions with the key and with the salt (R164). -/
def eksStates (n : Nat) (key : Vector Word 18) (salt : Vector Word 4) : Nat → Blowfish
  | 0 => initState
  | 1 => expandState (keyWord key n) salt initState
  | t + 2 =>
    expand0State (if t % 2 = 0 then keyWord key n else saltKeyWord salt)
      (eksStates n key salt (t + 1))

section
variable (n : Nat) (key : Vector Word 18) (salt : Vector Word 4) (t : Nat)

theorem eksStates_key : eksStates n key salt (2 * t + 2) =
    expand0State (keyWord key n) (eksStates n key salt (2 * t + 1)) := by
  rw [eksStates, if_pos (by omega)]

theorem eksStates_salt : eksStates n key salt (2 * t + 3) =
    expand0State (saltKeyWord salt) (eksStates n key salt (2 * t + 2)) := by
  rw [eksStates, if_neg (by omega)]

/-- Two of the states are one iteration of the loop of R164. -/
theorem eksStates_eq_iterate : eksStates n key salt (2 * t + 1) =
    iterate (eksIteration (keyWord key n) (saltKeyWord salt)) t
      (expandState (keyWord key n) salt initState) := by
  induction t with
  | zero => rfl
  | succ t ih => rw [iterate_succ_last, ← ih, eksIteration, ← eksStates_key, ← eksStates_salt]; rfl

end

/-- An expansion calls Encipher 9 times for P and 512 times for S (R166). -/
theorem enciphersPerExpansion_eq : enciphersPerExpansion = 521 := by
  simp [enciphersPerExpansion, pBlocks, sBoxes, sBlocks]

/-- Settles O57: the states are those EksSetup goes through, and the totals are 521 for each
expansion. -/
theorem eksSetupRunsTheExpansions : Obligations.EksSetupRunsTheExpansions := by
  have htotal (c : Nat) : setupEnciphers c = 521 * (1 + 2 * 2 ^ c) := by
    rw [setupEnciphers, enciphersPerExpansion_eq]
  refine ⟨fun c n key salt => ⟨eksStates n key salt, rfl, rfl, fun t _ => ?_, ?_, htotal c⟩, htotal 4,
    htotal 5, htotal 10, htotal 31⟩
  · exact ⟨eksStates_key n key salt t, eksStates_salt n key salt t⟩
  · rw [Nat.add_comm, eksStates_eq_iterate, eksSetup]

end Sys2Proof.Machine
end

section
/-!
Proofs about the key expansion, part 2: an expansion as one chain of 521 blocks (R162, R163, R166).

The P phase and the S phase are stretches of one sequence of running values.  Block `k` writes the words
`2k` and `2k + 1` of the window PSWIN and no other, in either phase, so each result stands to the end.
-/

namespace Sys2Proof.Machine

/-! ### The chain of an expansion -/

/-- A loop over `0..n-1` whose rounds are the steps `a`, ..., `a + n - 1` of a sequence runs through that
stretch of it; `d` steps make a round. -/
theorem foldl_finRange_eq {α : Type} (seq : Nat → α) {d a : Nat} {n : Nat} {f : α → Fin n → α}
    (h : ∀ i : Fin n, f (seq (a + d * i.val)) i = seq (a + d * (i.val + 1))) :
    (List.finRange n).foldl f (seq a) = seq (a + d * n) := by
  induction n with
  | zero => rfl
  | succ n ih =>
    rw [List.finRange_succ_last, List.foldl_append, List.foldl_map,
      ih (f := fun c i => f c i.castSucc) fun i => h i.castSucc]
    exact h (Fin.last n)

/-- Block `k` of the chain: block `k` of the P phase, then block `k - 9` of the S phase. -/
def Chain.fill (mix : Mix) (c : Chain) (k : Nat) : Chain :=
  if h : k < 9 then c.fillP mix ⟨k, h⟩
  else c.fillS mix (Fin.ofNat 4 ((k - 9) / 128)) (Fin.ofNat 128 ((k - 9) % 128))

theorem Chain.fill_p (mix : Mix) (c : Chain) (i : Fin 9) : c.fill mix i.val = c.fillP mix i :=
  dif_pos i.isLt

theorem Chain.fill_s (mix : Mix) (c : Chain) (b : Fin 4) (i : Fin 128) :
    c.fill mix (9 + 128 * b.val + i.val) = c.fillS mix b i := by
  have hb : Fin.ofNat 4 ((9 + 128 * b.val + i.val - 9) / 128) = b := Fin.ext (by simp; omega)
  have hi : Fin.ofNat 128 ((9 + 128 * b.val + i.val - 9) % 128) = i := Fin.ext (by simp; omega)
  rw [Chain.fill, dif_neg (by omega), hb, hi]

/-- Every block of the chain is one of the P phase or one of the S phase. -/
theorem block_cases {k : Nat} (hk : k < 521) :
    (∃ i : Fin 9, k = i.val) ∨ ∃ (b : Fin 4) (i : Fin 128), k = 9 + 128 * b.val + i.val := by
  by_cases h : k < 9
  · exact .inl ⟨⟨k, h⟩, rfl⟩
  · refine .inr ⟨⟨(k - 9) / 128, by omega⟩, ⟨(k - 9) % 128, by omega⟩, ?_⟩
    simp only
    omega

theorem Chain.fill_j (mix : Mix) (c : Chain) (k : Nat) : (c.fill mix k).j = c.j + 2 := by
  unfold Chain.fill
  split <;> rfl

theorem Chain.fill_x (mix : Mix) (c : Chain) (k : Nat) :
    (c.fill mix k).x = c.bf.encipher (mix c.j c.x) := by
  unfold Chain.fill
  split <;> rfl

/-- The running values before block `k`, from the zero block on (R162). -/
def chainAt (mix : Mix) (bf : Blowfish) : Nat → Chain
  | 0 => { bf := bf, x := (0, 0), j := 0 }
  | k + 1 => (chainAt mix bf k).fill mix k

section
variable (mix : Mix) (bf : Blowfish)

/-- The salt index runs on over both phases, by two for each block. -/
theorem chainAt_j (k : Nat) : (chainAt mix bf k).j = 2 * k := by
  induction k with
  | zero => rfl
  | succ k ih => rw [chainAt, Chain.fill_j, ih]; rfl

theorem chainAt_x_succ (k : Nat) :
    (chainAt mix bf (k + 1)).x =
      (chainAt mix bf k).bf.encipher (mix (2 * k) (chainAt mix bf k).x) := by
  rw [chainAt, Chain.fill_x, chainAt_j]

theorem chainAt_succ_p (i : Fin 9) :
    chainAt mix bf (i.val + 1) = (chainAt mix bf i.val).fillP mix i :=
  Chain.fill_p mix _ i

theorem chainAt_succ_s (b : Fin 4) (i : Fin 128) :
    chainAt mix bf (9 + 128 * b.val + i.val + 1) =
      (chainAt mix bf (9 + 128 * b.val + i.val)).fillS mix b i :=
  Chain.fill_s mix _ b i

/-- The P phase is the first 9 blocks. -/
theorem fillAllP_chainAt : (chainAt mix bf 0).fillAllP mix = chainAt mix bf 9 := by
  refine foldl_finRange_eq (chainAt mix bf) (d := 1) fun i => ?_
  simp only [Nat.zero_add, Nat.one_mul, chainAt_succ_p]

/-- The S phase is the other 512 blocks, 128 for each box. -/
theorem fillAllS_chainAt : (chainAt mix bf 9).fillAllS mix = chainAt mix bf 521 := by
  refine foldl_finRange_eq (chainAt mix bf) (d := 128) fun b => ?_
  refine foldl_finRange_eq (chainAt mix bf) (d := 1) (a := 9 + 128 * b.val) fun i => ?_
  simp only [Nat.one_mul, ← Nat.add_assoc, chainAt_succ_s]

theorem refill_eq_chainAt : refill mix bf = (chainAt mix bf 521).bf := by
  rw [refill, ← fillAllS_chainAt, ← fillAllP_chainAt]
  rfl

end

/-! ### The words a block writes -/

/-- The half of a block that goes to an even or to an odd word of the window. -/
def halfOf (x : Block) (n : Nat) : Word := if n % 2 = 0 then x.1 else x.2

theorem window_setP (bf : Blowfish) (i : Fin 18) (v : Word) (n : Fin 1042) :
    (bf.setP i v).window n = if n.val = i.val then v else bf.window n := by
  unfold Blowfish.window
  by_cases h : n.val < 18
  · simp [h, Blowfish.pWord_setP, Fin.ext_iff]
  · simp [h, show n.val ≠ i.val by omega]

theorem window_setS (bf : Blowfish) (b : Fin 4) (i : Fin 256) (v : Word) (n : Fin 1042) :
    (bf.setS b i v).window n = if n.val = 18 + 256 * b.val + i.val then v else bf.window n := by
  unfold Blowfish.window
  by_cases h : n.val < 18
  · simp [h, show n.val ≠ 18 + 256 * b.val + i.val by omega]
  · have hn : (n.val - 18) / 256 = b.val ∧ (n.val - 18) % 256 = i.val ↔
        n.val = 18 + 256 * b.val + i.val := by omega
    simp [h, Blowfish.sWord_setS, Fin.ext_iff, hn]

theorem window_eq_pWord (bf : Blowfish) {n : Fin 1042} {i : Fin 18} (h : n.val = i.val) :
    bf.window n = bf.pWord i := by
  rw [Blowfish.window, dif_pos (by omega)]
  congr 1
  exact Fin.ext h

theorem window_eq_sWord (bf : Blowfish) {n : Fin 1042} {b : Fin 4} {i : Fin 256}
    (h : n.val = 18 + 256 * b.val + i.val) : bf.window n = bf.sWord b i := by
  rw [Blowfish.window, dif_neg (by omega)]
  congr 1 <;> exact Fin.ext (by simp only; omega)

/-- Two writes, of the halves of `x` to the words `2k` and `2k + 1`. -/
theorem ite_halves (x : Block) (w : Word) (n k : Nat) :
    (if n = 2 * k + 1 then x.2 else if n = 2 * k then x.1 else w) =
      if n / 2 = k then halfOf x n else w := by
  by_cases hodd : n = 2 * k + 1
  · rw [if_pos hodd, if_pos (by omega), halfOf, if_neg (by omega)]
  · by_cases heven : n = 2 * k
    · rw [if_neg hodd, if_pos heven, if_pos (by omega), halfOf, if_pos (by omega)]
    · rw [if_neg hodd, if_neg heven, if_neg (by omega)]

/-- Block `k` writes its halves to the words `2k` and `2k + 1` of the window, and no other word. -/
theorem window_fill (mix : Mix) (c : Chain) {k : Nat} (hk : k < 521) (n : Fin 1042) :
    (c.fill mix k).bf.window n =
      if n.val / 2 = k then halfOf (c.fill mix k).x n else c.bf.window n := by
  rw [← ite_halves]
  obtain ⟨i, rfl⟩ | ⟨b, i, rfl⟩ := block_cases hk
  · rw [Chain.fill_p]
    simp only [Chain.fillP, window_setP, Chain.advance_bf]
  · have heven : 18 + 256 * b.val + 2 * i.val = 2 * (9 + 128 * b.val + i.val) := by omega
    rw [Chain.fill_s]
    simp only [Chain.fillS, window_setS, Chain.advance_bf, ← Nat.add_assoc, heven]

/-- A word of the window keeps the result written to it to the end of the chain. -/
theorem window_chainAt (mix : Mix) (bf : Blowfish) (n : Fin 1042) {m : Nat} (hn : n.val / 2 < m)
    (hm : m ≤ 521) :
    (chainAt mix bf m).bf.window n = halfOf (chainAt mix bf (n.val / 2 + 1)).x n := by
  induction m, hn using Nat.le_induction with
  | base => rw [chainAt, window_fill mix _ hm, if_pos rfl]
  | succ m hle ih => rw [chainAt, window_fill mix _ hm, if_neg (by omega), ih (by omega)]

/-- The words `2k` and `2k + 1` of the window, after an expansion, are the result of block `k`. -/
theorem window_refill (mix : Mix) (bf : Blowfish) {k : Nat} (hk : k < 521) :
    (refill mix bf).window ⟨2 * k, by omega⟩ = (chainAt mix bf (k + 1)).x.1 ∧
      (refill mix bf).window ⟨2 * k + 1, by omega⟩ = (chainAt mix bf (k + 1)).x.2 := by
  have h0 : 2 * k / 2 = k := by omega
  have h1 : (2 * k + 1) / 2 = k := by omega
  rw [refill_eq_chainAt, window_chainAt mix bf _ (by simp only; omega) le_rfl,
    window_chainAt mix bf _ (by simp only; omega) le_rfl]
  simp only [h0, h1]
  exact ⟨if_pos (by omega), if_neg (by omega)⟩

/-- The part both expansions share is one chain of 521 blocks (R162, R163). -/
theorem isExpansion_refill (mix : Mix) (stream : Nat → Word) (bf : Blowfish) :
    IsExpansion (fun k => mix (2 * k)) stream bf (refill mix (xorKeyIntoP stream bf)) := by
  generalize hxor : xorKeyIntoP stream bf = start
  refine ⟨fun k => (chainAt mix start k).bf, fun k => (chainAt mix start k).x, hxor.symm, rfl,
    fun k _ => chainAt_x_succ mix start k, fun i => ?_, fun b i => ?_, refill_eq_chainAt mix start,
    fun i => ?_, fun b i => ?_⟩
  · simp only [chainAt_succ_p]
    rfl
  · simp only [chainAt_succ_s]
    rfl
  · obtain ⟨heven, hodd⟩ := window_refill mix start (k := i.val) (by omega)
    exact ⟨(window_eq_pWord _ rfl).symm.trans heven, (window_eq_pWord _ rfl).symm.trans hodd⟩
  · obtain ⟨heven, hodd⟩ := window_refill mix start (k := 9 + 128 * b.val + i.val) (by omega)
    exact ⟨(window_eq_sWord _ (by simp only; omega)).symm.trans heven,
      (window_eq_sWord _ (by simp only; omega)).symm.trans hodd⟩

/-- Settles O49: both expansions are the chain, with their own mixing. -/
theorem expansionEnciphers521Blocks : Obligations.ExpansionEnciphers521Blocks :=
  ⟨fun stream salt bf => isExpansion_refill (saltMix salt) stream bf,
    fun stream bf => isExpansion_refill noMix stream bf, fun _ => ⟨rfl, rfl⟩,
    enciphersPerExpansion_eq⟩

end Sys2Proof.Machine
end

section
/-!
Proofs about the finalisation: the completions of ENCRYPT and HASH (R204, R205, R241), Encrypt64 block by
block (R201), and the three relations between the commands of R204.

A pass of Encrypt64 replaces each block by its encipherment and leaves the others, so the passes commute
with taking a block.  Two commands in a row are two uses of one lemma: a command whose check passes
starts, completes, and leaves its expected result.
-/

namespace Sys2Proof.Machine

/-! ### Completion -/

/-- Settles O9: the running ENCRYPT completes, with the encrypted CTEXT. -/
theorem encryptCompletes : Obligations.EncryptCompletes :=
  fun _ hb hc => exec_running hb hc

/-- Settles O10: the running HASH completes, with the expanded key and the encrypted magic words. -/
theorem hashCompletes : Obligations.HashCompletes :=
  fun _ hb hc => exec_running hb hc

/-! ### Encrypt64, block by block -/

/-- A map that takes one function to another takes its repetition to the other's. -/
theorem map_iterate {α β : Type} {g : α → β} {f : α → α} {f' : β → β}
    (h : ∀ x, g (f x) = f' (g x)) (n : Nat) (x : α) : g (iterate f n x) = iterate f' n (g x) := by
  induction n generalizing x with
  | zero => rfl
  | succ n ih => rw [iterate_succ, iterate_succ, ih, h]

/-- A loop that replaces the blocks of a list, each by a function of itself, changes each block in the
list once and no other. -/
theorem blockOf_foldl_setBlock (f : Block → Block) {l : List (Fin 3)} (hl : l.Nodup)
    (c : Vector Word 6) (k : Fin 3) :
    blockOf (l.foldl (fun c j => setBlock c j (f (blockOf c j))) c) k =
      if k ∈ l then f (blockOf c k) else blockOf c k := by
  induction l generalizing c with
  | nil => rfl
  | cons j l ih =>
    obtain ⟨hj, hl⟩ := List.nodup_cons.mp hl
    rw [List.foldl_cons, ih hl]
    by_cases hk : k = j
    · subst hk
      simp [hj]
    · simp [hk, blockOf_setBlock_of_ne]

/-- A pass enciphers each block on its own (R201). -/
theorem blockOf_encryptPass (bf : Blowfish) (c : Vector Word 6) (k : Fin 3) :
    blockOf (encryptPass bf c) k = bf.encipher (blockOf c k) :=
  (blockOf_foldl_setBlock bf.encipher (List.nodup_finRange 3) c k).trans
    (if_pos (List.mem_finRange k))

/-- Settles O50: the 64 passes commute with taking block `k`. -/
theorem finalisationIsEcb : Obligations.FinalisationIsEcb := by
  intro bf c k
  unfold encrypt64
  exact map_iterate (g := (blockOf · k)) (fun c => blockOf_encryptPass bf c k) 64 c

/-- Encrypt64 of what Encrypt64 left is Encipher^128 of each block (R204 (b)). -/
theorem blockOf_encrypt64_encrypt64 (bf : Blowfish) (c : Vector Word 6) (k : Fin 3) :
    blockOf (encrypt64 bf (encrypt64 bf c)) k = iterate bf.encipher 128 (blockOf c k) := by
  rw [finalisationIsEcb, finalisationIsEcb, ← iterate_add]

/-! ### A command from its start to its end -/

/-- The check of a command passes exactly where it starts (R266). -/
theorem checkOf_eq_none {i : Instr} {s : State} : checkOf i s = none ↔ startsIn i s := by
  cases i with
  | setup | hash => exact operandCheck_eq_none
  | encrypt => exact stateCheck_eq_none

/-- A command whose check passes is accepted and starts (R232). -/
theorem exec_starts {i : Instr} {s : State} (hb : s.busy = false) (h : startsIn i s) :
    exec i s = .next ((claimOf i s.clearResult).start i) := by
  rw [exec_idle hb, State.accept, checkOf_eq_none.mpr h]

/-- A command whose check passes starts and completes.  It leaves an idle engine, its expected result, no
error, and CTEXT (R232, R241). -/
theorem exec_starts_completes {i : Instr} {s : State} (hb : s.busy = false) (h : startsIn i s) :
    ∃ t u, exec i s = .next t ∧ exec i t = .next u ∧ u.busy = false ∧
      u.result = expectedResult i s ∧ u.errcode = 0 ∧ u.ctext = s.ctext := by
  refine ⟨_, _, exec_starts hb h, exec_running rfl rfl, rfl, ?_, by simp, ?_⟩
  · cases i <;> rfl
  · cases i <;> rfl

/-- The result of ENCRYPT is a function of the result that stands and of CTEXT (R204). -/
theorem expectedResult_encrypt {s : State} {r : Result} (h : s.result = r) :
    expectedResult .encrypt s = { r with hash := encrypt64 r.bf s.ctext } := by
  subst h
  rfl

/-- Settles O51: the first ENCRYPT leaves an idle engine with the same P, S and SV, so the second one
starts, and its result is Encrypt64 of the first one's under that state. -/
theorem encryptTwiceIsEncipher128 : Obligations.EncryptTwiceIsEncipher128 := by
  intro s hb hc hsv
  obtain ⟨u, v, hu, hv, -, hres, -⟩ := exec_starts_completes (i := .encrypt)
    (s := { (finishOf .encrypt s).complete with ctext := (finishOf .encrypt s).complete.hash }) rfl hsv
  have hbf : v.bf = s.bf := congrArg Result.bf hres
  have hhash : v.hash = encrypt64 s.bf (encrypt64 s.bf s.ctext) := congrArg Result.hash hres
  exact ⟨_, u, v, exec_running hb hc, hu, hv, hbf, fun k => by
    rw [hhash, blockOf_encrypt64_encrypt64]⟩

/-- Settles O52: SETUP leaves the state that HASH encrypts under, and CTEXT holds what HASH encrypts. -/
theorem setupThenEncryptIsHash : Obligations.SetupThenEncryptIsHash := by
  intro s hb hstart hmagic
  obtain ⟨a, b, ha, hab, hidle, hsetup, -, hctext⟩ := exec_starts_completes (i := .setup) hb hstart
  have hsv : b.sv = true := congrArg Result.sv hsetup
  obtain ⟨c, d, hc, hcd, -, hencrypt, herr, -⟩ := exec_starts_completes (i := .encrypt) hidle hsv
  obtain ⟨a', b', ha', hab', -, hhash, herr', -⟩ := exec_starts_completes hb hstart
  have hresult : expectedResult .encrypt b = expectedResult .hash s := by
    rw [expectedResult_encrypt hsetup, hctext, hmagic]
    rfl
  exact ⟨a, b, c, d, a', b', ha, hab, hc, hcd, ha', hab', hencrypt.trans (hresult.trans hhash.symm),
    herr, herr'⟩

end Sys2Proof.Machine
end

section
/-!
Proofs about the host's accesses and the engine's turn: the start and the end of a command (R232, R240,
R241), the register words a read returns (R231, R237 to R239), and what a write stores (R233 to R236).
-/

namespace Sys2Proof.Machine

/-! ### The start and the end of a command -/

/-- The state a command starts in, field by field (R232). -/
theorem start_claimOf_clearResult (i : Instr) (s : State) :
    (claimOf i s.clearResult).start i = { s with
      done := false
      errcode := 0
      sv := if i = .encrypt then s.sv else false
      busy := true
      curOp := some i } := by
  cases i <;> rfl

/-- Settles O6: the command starts, and its start writes these five fields. -/
theorem legalCommandStarts : Obligations.LegalCommandStarts := by
  intro i s hb hstart
  rw [exec_starts hb hstart, start_claimOf_clearResult]

/-- Settles O11: an idle engine's turn changes nothing, and a running command finishes with its expected
result and the error code of before. -/
theorem engineStepCompletesTheCommand : Obligations.EngineStepCompletesTheCommand := by
  refine ⟨fun s hb => engineTurn_idle hb, fun s i hb hc => ?_⟩
  exact ⟨_, engineTurn_running hb hc, finishOf_result i s, rfl, rfl, rfl, finishOf_errcode i s⟩

/-! ### Reads of the registers -/

/-- A read of a register whose value is not free answers its word and leaves the state (R231). -/
theorem hostRead_regWord {s : State} {who : Nat} {r : Reg} (hadm : admits s.platform who = true)
    (hfree : s.readsFree (some r) = false) (e : Option Word) :
    hostRead who (windowBase s.platform + regOffset r) 4 e s =
      .next (s.record { addr := windowBase s.platform + regOffset r
                        reply := .data (s.regWord (some r)), expect := e }) := by
  rw [hostRead, readReply_register hadm hfree]

/-- The free values are those of PSWIN while the window is not open (R238). -/
theorem readsFree_iff {s : State} {r : Reg} :
    s.readsFree (some r) = true ↔ (∃ n, r = .pswin n) ∧ (s.busy = true ∨ s.sv = false) := by
  cases r with
  | pswin n => cases hb : s.busy <;> simp [State.readsFree, State.windowOpen, hb]
  | _ => simp [State.readsFree]

/-- A field under zeros reads as its number (R31 to R33). -/
theorem toNat_zero_append {k : Nat} (m : Nat) (x : BitVec k) : (0#m ++ x).toNat = x.toNat := by
  simp [BitVec.toNat_append]

/-- Settles O17: the read answers the register's word, which is its field under zeros. -/
theorem readsReturnTheRegister : Obligations.ReadsReturnTheRegister := by
  refine ⟨fun s who r e hadm hfree => hostRead_regWord hadm hfree e, fun s => ?_,
    fun s r => readsFree_iff⟩
  refine ⟨rfl, rfl, ?ctrl, toNat_zero_append 27 s.cost, toNat_zero_append 25 s.klen, fun _ => rfl,
    fun _ => rfl, fun _ => rfl, fun _ => rfl⟩
  case ctrl =>
    refine (toNat_zero_append 31 (BitVec.ofBool s.ie)).trans ?_
    cases s.ie <;> rfl

/-! ### Writes of the registers -/

/-- An accepted write to anything but CMD is the write of that register or reserved offset (R230). -/
theorem busWrite_of_ne_cmd {r : Option Reg} (hr : r ≠ some .cmd) (v : Word) (s : State) :
    busWrite r v s = .next (s.writeReg r v) :=
  if_neg hr

/-- The two bits of STATUS that are written with 1 fall, and nothing else changes (R233). -/
theorem clearByOne_eq (v : Word) (s : State) :
    s.clearByOne v = { s with
      done := if v.getLsbD 1 then false else s.done
      ign := if v.getLsbD 4 then false else s.ign } := by
  have hclear (flag one : Bool) : (flag && !one) = if one then false else flag := by
    cases one <;> simp
  rw [State.clearByOne, hclear, hclear]

/-- Settles O21: a write to STATUS clears by one. -/
theorem statusWriteClears : Obligations.StatusWriteClears := by
  intro s v
  rw [busWrite_status, clearByOne_eq]

/-- Settles O22: the write is `State.setCtrl`, and irq reads DONE and the new IE. -/
theorem ctrlWriteSetsIe : Obligations.CtrlWriteSetsIe :=
  fun s v => ⟨s.setCtrl v, busWrite_of_ne_cmd (by decide) v s, rfl, rfl⟩

/-- A write through the busy lock is stored while the engine is idle (R235). -/
theorem busWrite_stores {s : State} (r : Reg) (v : Word) (store : State → State) (hr : r ≠ .cmd)
    (hw : s.writeReg (some r) v = s.lockedWrite store) (hb : s.busy = false) :
    busWrite (some r) v s = .next (store s) := by
  rw [busWrite_of_ne_cmd (by simpa using hr), hw, lockedWrite_idle hb]

/-- Settles O23: each input register is written through the busy lock, which is open at an idle engine
and else sets IGN. -/
theorem inputWrites : Obligations.InputWrites := by
  refine ⟨fun s v hb => ⟨?cost, ?klen, fun w => ?salt, fun w => ?key, fun w => ?ctext⟩,
    fun s v r hb hr => busWrite_locked v hb hr⟩
  case cost => exact busWrite_stores .cost v (State.setCost v) nofun rfl hb
  case klen => exact busWrite_stores .klen v (State.setKlen v) nofun rfl hb
  case salt => exact busWrite_stores (.salt w) v (State.setSalt w v) nofun rfl hb
  case key => exact busWrite_stores (.key w) v (State.setKey w v) nofun rfl hb
  case ctext => exact busWrite_stores (.ctext w) v (State.setCtext w v) nofun rfl hb

/-- Settles O24: none of these is CMD, and the write of each leaves the state. -/
theorem readOnlyWritesAreIgnored : Obligations.ReadOnlyWritesAreIgnored :=
  fun s v => ⟨busWrite_of_ne_cmd (r := some .id) nofun v s,
    fun w => busWrite_of_ne_cmd (r := some (.hash w)) nofun v s,
    fun n => busWrite_of_ne_cmd (r := some (.pswin n)) nofun v s,
    busWrite_of_ne_cmd (r := none) nofun v s⟩

end Sys2Proof.Machine
end

section
/-!
Proofs about the ends of a command at acceptance: an illegal word (R103, R262), a failed check (R263 to
R267), and the rights of the software that issues an access (R274).
-/

namespace Sys2Proof.Machine

/-! ### Illegal words -/

/-- The command words are the numbers 1, 2 and 3 (R103). -/
theorem exists_decode_iff (w : Word) :
    (∃ i, decode w = .ok i) ↔ w.toNat = 1 ∨ w.toNat = 2 ∨ w.toNat = 3 := by
  constructor
  · rintro ⟨i, h⟩
    rw [eq_encode_of_decode h]
    cases i <;> decide
  · have hlegal (i : Instr) (h : w.toNat = (encode i).toNat) : ∃ i, decode w = .ok i :=
      ⟨i, BitVec.eq_of_toNat_eq h ▸ decode_encode i⟩
    rintro (h | h | h)
    · exact hlegal .setup h
    · exact hlegal .encrypt h
    · exact hlegal .hash h

/-- A word with a bit in RSVD, or with an OP that names no command, is illegal (R102, R104). -/
theorem decode_ne_ok_of_fields {w : Word}
    (h : rsvdField w ≠ 0 ∨ (opField w ≠ 1 ∧ opField w ≠ 2 ∧ opField w ≠ 3)) (i : Instr) :
    decode w ≠ .ok i := by
  intro hd
  obtain ⟨hr, hop⟩ := decode_eq_ok_iff.mp hd
  rcases h with hr' | ⟨h1, h2, h3⟩
  · exact hr' hr
  · cases i with
    | setup => exact h1 hop
    | encrypt => exact h2 hop
    | hash => exact h3 hop

/-- An error end at acceptance writes DONE and ERRCODE and nothing else (R267). -/
theorem endWithError_clearResult (e : CmdError) (s : State) :
    s.clearResult.endWithError e = { s with done := true, errcode := errorCode e } := rfl

/-- An illegal word written to CMD at an idle engine ends with ILLEGAL_CMD (R262). -/
theorem busWrite_illegal {w : Word} {s : State} (hb : s.busy = false)
    (hd : ∀ i, decode w ≠ .ok i) :
    busWrite (some .cmd) w s = .next { s with done := true, errcode := 1 } := by
  rcases busWrite_cases (some .cmd) w s with
    ⟨hr, -⟩ | ⟨-, hbusy, -⟩ | ⟨-, -, i, hi, -⟩ | ⟨-, -, -, he⟩
  · exact absurd rfl hr
  · simp [hb] at hbusy
  · exact absurd hi (hd i)
  · exact he.trans (congrArg _ (endWithError_clearResult .illegalCmd s))

/-- Settles O3: the fields of an illegal word are no command's, so its write ends with ILLEGAL_CMD, and
the busy lock comes before the decoder. -/
theorem illegalWordsRaiseIllegalCmd : Obligations.IllegalWordsRaiseIllegalCmd :=
  fun w _ => ⟨exists_decode_iff w,
    fun hw hb => busWrite_illegal hb (decode_ne_ok_of_fields hw),
    fun hb => busWrite_locked w hb rfl⟩

/-! ### Failed checks -/

/-- SETUP and HASH check the operands (R263, R264). -/
theorem checkOf_of_ne_encrypt {i : Instr} (hi : i ≠ .encrypt) (s : State) :
    checkOf i s = operandCheck s := by
  cases i with
  | setup | hash => rfl
  | encrypt => exact absurd rfl hi

theorem operandCheck_eq_invalidCost {s : State} (hc : s.cost.toNat < 4) :
    operandCheck s = some .invalidCost :=
  if_pos hc

theorem operandCheck_eq_invalidKlen {s : State} (hc : 4 ≤ s.cost.toNat)
    (hk : s.klen.toNat = 0 ∨ 72 < s.klen.toNat) : operandCheck s = some .invalidKlen :=
  (if_neg (Nat.not_lt.mpr hc)).trans (if_pos hk)

theorem stateCheck_eq_noState {s : State} (hsv : s.sv = false) : stateCheck s = some .noState := by
  simp [stateCheck, hsv]

/-- A command whose check fails ends at acceptance with that error (R232, R267). -/
theorem exec_failedCheck {i : Instr} {s : State} {e : CmdError} (hb : s.busy = false)
    (h : checkOf i s = some e) :
    exec i s = .next { s with done := true, errcode := errorCode e } := by
  rw [exec_idle hb, State.accept, h]
  exact congrArg _ (endWithError_clearResult e s)

/-- With DONE set, irq follows IE, and a code other than 0 makes ERR read 1 (R26, R270). -/
theorem irq_err_of_done {s : State} (hd : s.done = true) (he : s.errcode ≠ 0) :
    s.irq = s.ie ∧ s.err = true :=
  ⟨by simp [State.irq, hd], bne_iff_ne.mpr he⟩

/-- Settles O7: the check of the command, or the decoder, names the error the command ends with. -/
theorem failedCheckEndsTheCommand : Obligations.FailedCheckEndsTheCommand := by
  refine ⟨fun i s hi hb hc => ?cost, fun i s hi hb hc hk => ?klen, fun s hb hsv => ?state,
    fun w s hb hd => busWrite_illegal hb hd, fun s e he => irq_err_of_done rfl he⟩
  case cost =>
    exact exec_failedCheck hb ((checkOf_of_ne_encrypt hi s).trans (operandCheck_eq_invalidCost hc))
  case klen =>
    exact exec_failedCheck hb ((checkOf_of_ne_encrypt hi s).trans (operandCheck_eq_invalidKlen hc hk))
  case state => exact exec_failedCheck (i := .encrypt) hb (stateCheck_eq_noState hsv)

/-! ### The rights of admitted software -/

/-- Which admitted software issues an access makes no difference to its route (R274). -/
theorem route_eq_route {p : Platform} {who who' : Nat} (h : admits p who = true)
    (h' : admits p who' = true) (addr bytes : Nat) :
    route p who addr bytes = route p who' addr bytes := by
  rw [route_admitted h, route_admitted h']

/-- Settles O55: a read and a write see the issuer only in the route of the access. -/
theorem admittedSoftwareHasTheSameRights : Obligations.AdmittedSoftwareHasTheSameRights := by
  intro s who who' addr bytes v e h h'
  have hroute := route_eq_route h h' addr bytes
  exact ⟨by rw [hostRead, hostRead, readReply, readReply, hroute],
    by rw [hostWrite, hostWrite, hroute]⟩

end Sys2Proof.Machine
end
